-- ==== Sys2Proof/Word.lean ====
section
/-! DEFINITION. The word types of the Corjant 4810 and the shapes "one for each side" and "one for each port". -/

namespace Sys2Proof

/-- A byte of a frame, vector or cell (11 Formats and Signals). -/
abbrev Byte := BitVec 8

/-- A 16-bit field, most significant byte first (11). -/
abbrev Half := BitVec 16

/-- A 32-bit word: data word, table word, parity word, alignment word, counter (11). -/
abbrev Word := BitVec 32

/-- The 1,216 payload bytes of a slot, the first byte most significant (R3, R12). -/
abbrev Payload := BitVec 9728

/-- A set of spans or of working slots, member k in bit k (11, tables 0 and 10). -/
abbrev Bits := BitVec 32

/-- A line side (00 Spans and sides). -/
inductive Side
  | east
  | west
  deriving DecidableEq, Repr

/-- The opposite side. -/
def Side.other : Side → Side
  | .east => .west
  | .west => .east

/-- The place of a side's entry within its position: East before West (R60). -/
def Side.offset : Side → Nat
  | .east => 0
  | .west => 1

/-- State that exists once for each line side. -/
structure Sides (α : Type) where
  east : α
  west : α
  deriving DecidableEq, Repr

def Sides.get {α : Type} (v : Sides α) : Side → α
  | .east => v.east
  | .west => v.west

def Sides.set {α : Type} (v : Sides α) (x : Side) (a : α) : Sides α :=
  match x with
  | .east => { v with east := a }
  | .west => { v with west := a }

/-- A port: the two line ports and the tributary port, whose request queue is the Local one (R154, R155). -/
inductive Port
  | east
  | west
  | tributary
  deriving DecidableEq, Repr

/-- The line port of a side. -/
def Side.port : Side → Port
  | .east => .east
  | .west => .west

/-- State that exists once for each port. -/
structure Ports (α : Type) where
  east : α
  west : α
  tributary : α
  deriving DecidableEq, Repr

def Ports.get {α : Type} (v : Ports α) : Port → α
  | .east => v.east
  | .west => v.west
  | .tributary => v.tributary

def Ports.set {α : Type} (v : Ports α) (q : Port) (a : α) : Ports α :=
  match q with
  | .east => { v with east := a }
  | .west => { v with west := a }
  | .tributary => { v with tributary := a }

end Sys2Proof
end

