-- ==== Sys2Proof/Syntax.lean ====
section
/-! DEFINITION. The commands of the Corjant 4810: one constructor for each row of spec/opcode_table.json,
and the frames, vectors and cells that they carry, laid out as 11 Formats and Signals gives. -/

namespace Sys2Proof

/-- A slot as it stands on a port: the void-mark byte, whose bit 0 set means VOID, and the payload (R3, R4, 11). -/
structure Slot where
  mark : Byte
  payload : Payload
  deriving DecidableEq, Repr

/-- The 64 slots of a line frame: W0 to W31, then P0 to P31 (R3). -/
structure LineSlots where
  working : Vector Slot 32
  protection : Vector Slot 32
  deriving DecidableEq, Repr

/-- The signalling vector's 136 bytes by field (R65, 11): state code, sender node ID, ring ID, map digest, 64 entry words, check. -/
structure SigVector where
  state : Byte
  sender : Byte
  ringId : Half
  digest : Half
  entries : Vector Half 64
  check : Half
  deriving DecidableEq, Repr

/-- The 48 bytes of a management cell by field (R149, 11). -/
structure Cell where
  kind : Byte
  route : Byte
  hop : Byte
  destination : Byte
  source : Byte
  tag : Byte
  operation : Byte
  status : Byte
  table : Byte
  count : Byte
  index : Half
  headerCheck : Half
  data : Vector Word 8
  dataCheck : Half
  deriving DecidableEq, Repr

/-- The management field: the flag byte, whose bit 0 means that a cell is present, and the 48 cell bytes (R3, 11). -/
structure Management where
  flag : Byte
  cell : Cell
  deriving DecidableEq, Repr

/-- A line frame in transmission order (R3). -/
structure LineFrame where
  alignment : Word
  parity : Word
  vector : SigVector
  management : Management
  slots : LineSlots
  deriving DecidableEq, Repr

/-- A tributary frame (R4). -/
structure TributaryFrame where
  alignment : Word
  management : Management
  slots : Vector Slot 64
  deriving DecidableEq, Repr

/-- How much of a local frame start a command takes (R1, R19; log 6). Each block that acts at a local frame start takes it as
its own event, so other events of the same instant may stand between its issue and its frames. -/
inductive FrameStartPart
  /-- The Frame Timer issues the local frame start: the count advances and the timers count (R1, R2). -/
  | issue
  /-- The frames are built and begun, after the issue where that has not been taken yet (R5, R19). -/
  | frames
  deriving DecidableEq, Repr

/-- The order in which the Signalling Unit's merge and the Span Monitor's event of one frame arrival are taken;
R11 leaves it open (log 7). -/
inductive ArrivalOrder
  | mergeFirst
  | monitorFirst
  deriving DecidableEq, Repr

/-- The commands, in the order of spec/opcode_table.json. -/
inductive Instr
  /-- RESET_N is driven low (R6). -/
  | resetNAssert
  /-- The rising edge of RESET_N, with the levels of ID5 to ID0 sampled there (R46). -/
  | resetNRelease (straps : BitVec 6)
  /-- A local frame start, whole or in two parts with other events of its instant between them (R1, R19; log 6). -/
  | localFrameStart (part : FrameStartPart)
  /-- The swap that follows a valid COMMIT (R137). -/
  | commitSwap
  /-- The LOS pin of a side goes high (R10). -/
  | losAssert (x : Side)
  /-- The LOS pin of a side goes low (R10). -/
  | losRelease (x : Side)
  /-- The searching receiver finds the alignment pattern (R7). -/
  | alignmentWordFound (x : Side)
  /-- The word at the expected position in PRESYNC (R8). -/
  | presyncWordCheck (x : Side) (word : Word)
  /-- The word at the expected position in ALIGNED (R9). -/
  | alignedWordCheck (x : Side) (word : Word)
  /-- An aligned frame has been received whole (R11). -/
  | alignedFrameArrival (x : Side) (frame : LineFrame) (order : ArrivalOrder)
  /-- The hold-off timer expires (R26). -/
  | holdOffExpiry (x : Side)
  /-- The settle mask timer expires (R41). -/
  | settleMaskExpiry (x : Side)
  /-- The wait-to-restore timer expires (R90). -/
  | wtrExpiry (x : Side)
  /-- The confirm timer expires (R114, R119). -/
  | confirmTimerExpiry (x : Side)
  /-- An inbound tributary frame has been received whole (R4). -/
  | tributaryFrameArrival (frame : TributaryFrame)
  /-- An Agent turn takes a READ request (R160). -/
  | read
  /-- An Agent turn takes a WRITE request (R161). -/
  | write
  /-- An Agent turn takes a SET request (R161). -/
  | set
  /-- An Agent turn takes a CLEAR request (R161). -/
  | clear
  /-- An Agent turn takes a READ-CLEAR request (R160). -/
  | readClear
  /-- An Agent turn takes a COMMIT request (R135). -/
  | commit
  /-- An Agent turn takes a POLL request (R165). -/
  | poll
  /-- An Agent turn takes a FORCE-EAST command (R93). -/
  | forceEast
  /-- An Agent turn takes a FORCE-WEST command (R93). -/
  | forceWest
  /-- An Agent turn takes a MANUAL-EAST command (R93). -/
  | manualEast
  /-- An Agent turn takes a MANUAL-WEST command (R93). -/
  | manualWest
  /-- An Agent turn takes a PARK command (R94). -/
  | park
  /-- An Agent turn takes a CLEAR-PARK command (R94). -/
  | clearPark
  /-- An Agent turn takes a CLEAR-EAST command (R95). -/
  | clearEast
  /-- An Agent turn takes a CLEAR-WEST command (R95). -/
  | clearWest
  /-- An Agent turn takes a JOIN command (R56). -/
  | join
  /-- An Agent turn takes a LEAVE command (R57). -/
  | leave
  /-- An Agent turn takes a RESTART command, with the levels of ID5 to ID0 it samples (R164, R46). -/
  | restart (straps : BitVec 6)
  /-- The Event Unit attempts to send the pending notice (R171). -/
  | noticeSendAttempt
  /-- An Agent turn takes a request of no known operation (R159). -/
  | unknownOperation
  /-- An Agent turn takes a COMMAND request of no known command code (R159). -/
  | unknownCommand
  deriving DecidableEq, Repr

end Sys2Proof
end

