-- ==== Sys2Proof/WellFormed.lean ====
section
/-! DEFINITION. Well-formedness of a command. The operand types bound every field: a strap level has 6 bits, a frame has its
64 slots, a cell its 48 bytes, a side and a part of a local frame start are one of two names. Nothing is left to check. -/

namespace Sys2Proof

/-- A well-formed command: every command that its constructor's types admit. -/
def Instr.wellFormed : Instr → Bool
  | .localFrameStart _ | .resetNAssert | .resetNRelease _ | .commitSwap | .losAssert _ | .losRelease _
  | .alignmentWordFound _ | .presyncWordCheck _ _ | .alignedWordCheck _ _ | .alignedFrameArrival _ _ _ | .holdOffExpiry _
  | .settleMaskExpiry _ | .wtrExpiry _ | .confirmTimerExpiry _ | .tributaryFrameArrival _ | .read | .write | .set
  | .clear | .readClear | .commit | .poll | .forceEast | .forceWest | .manualEast | .manualWest | .park | .clearPark
  | .clearEast | .clearWest | .join | .leave | .restart _ | .noticeSendAttempt | .unknownOperation
  | .unknownCommand => true

end Sys2Proof
end

