-- ==== Sys2Proof/Config.lean ====
section
/-! DEFINITION. What is fixed for the part: constants of the manual, capacities, and the levels that the model's
reset state gives to the pins. No value of the manual is left undefined, so there is no free value here. -/

namespace Sys2Proof.Config

/-- The alignment word (R3, 00 Terms). -/
def alignmentWord : Word := 0x1E7B4D92#32

/-- The payload of a VOID slot as sent: 1,216 bytes of 0x5A (R3). -/
def fillPayload : Payload := BitVec.ofNat 9728 (0x5A * ((256 ^ 1216 - 1) / 255))

/-- A request queue holds up to 4 cells (R154). -/
def requestCapacity : Nat := 4

/-- A transmit queue holds up to 8 cells and reserved places (R155). -/
def transmitCapacity : Nat := 8

/-- An alignment buffer holds up to 4 frames (R14). -/
def bufferCapacity : Nat := 4

/-- The consecutive bad alignment words that end ALIGNED (R9). -/
def badWordLimit : Nat := 4

/-- The consecutive failed vectors that make MUTE present (R23). -/
def muteLimit : Nat := 8

/-- One violation per frame in units of d (R30). -/
def densityUnit : Nat := 1048576

/-- The largest d (R30). -/
def densityMax : Nat := 33554432

/-- Local frame starts in one programmed unit of 10 ms (R2). -/
def framesPerUnit : Nat := 100

/-- Local frame starts in one second (R2). -/
def framesPerSecond : Nat := 10000

/-- The part code and revision of the Identity table (R49). -/
def partCode : Nat := 0x4810
def revision : Nat := 0x03

/-- The node ID of the reset vector and the local alias (R6, 00 Node identity). -/
def aliasId : Nat := 63

/-- The positions that the rise, notify and alert enables store: the 31 sources (R169). -/
def sourceMask : Word := 0x7FFFFFFF#32

/-- The positions that the fall enables store: the 25 live conditions (R169). -/
def liveMask : Word := 0x01FFFFFF#32

/-- DESIGN CHOICE (log 4): the strap pins read all ones in the model's reset state. -/
def resetStraps : BitVec 6 := 63#6

/-- DESIGN CHOICE (log 4): the LOS pins are low in the model's reset state. -/
def resetLos : Sides Bool := ⟨false, false⟩

end Sys2Proof.Config
end

