-- ==== Sys2Proof/Machine/Formats.lean ====
section
/-! DEFINITION. The formats of 11: bit fields and bytes, the cyclic check, slots and lane parity, signalling vectors,
management cells and the requests they carry. -/

namespace Sys2Proof

/-! ### Bit fields and bytes (11) -/

/-- The value of the `width` bits of a word from bit `lo` upward. -/
def fieldAt (w : Word) (lo width : Nat) : Nat :=
  (w.extractLsb' lo width).toNat

/-- A word that holds the value `v` from bit `lo` upward. -/
def placed (lo v : Nat) : Word :=
  BitVec.ofNat 32 v <<< lo

/-- A word that holds one flag at bit `lo`. -/
def placedBit (lo : Nat) (b : Bool) : Word :=
  placed lo b.toNat

/-- The two bytes of a 16-bit field, most significant first. -/
def halfBytes (h : Half) : List Byte :=
  [h.extractLsb' 8 8, h.extractLsb' 0 8]

/-- The four bytes of a word, most significant first. -/
def wordBytes (w : Word) : List Byte :=
  [w.extractLsb' 24 8, w.extractLsb' 16 8, w.extractLsb' 8 8, w.extractLsb' 0 8]

/-- The element of a vector at an index, or `d` beyond its end. -/
def elementAt {α : Type} {n : Nat} (v : Vector α n) (i : Nat) (d : α) : α :=
  (v[i]?).getD d

/-! ### The cyclic check (R178) -/

/-- One bit of the check register: x^16 + x^12 + x^5 + 1. -/
def crcBit (r : Half) : Half :=
  if r.msb then (r <<< 1) ^^^ 0x1021#16 else r <<< 1

/-- One byte into the check register, most significant bit first. -/
def crcByte (r : Half) (b : Byte) : Half :=
  Nat.iterate crcBit 8 (r ^^^ (b.setWidth 16 <<< 8))

/-- The check over a run of bytes: the register starts at 0xFFFF and is sent without inversion (R178). -/
def checkOf (bytes : List Byte) : Half :=
  bytes.foldl crcByte 0xFFFF#16

/-! ### Slots and lane parity (R3, R12) -/

/-- A received slot whose void mark is set is VOID, whatever its payload holds (R3). -/
def Slot.isVoid (t : Slot) : Bool :=
  t.mark.getLsbD 0

/-- A VOID slot as it is sent: the void mark set and fill in place of payload (R3). -/
def Slot.fill : Slot :=
  ⟨1#8, Config.fillPayload⟩

/-- A slot as it is sent on: VOID is sent with fill, and traffic with its mark clear and its payload unchanged (R3). -/
def Slot.forwarded (t : Slot) : Slot :=
  if t.isVoid then Slot.fill else ⟨0#8, t.payload⟩

/-- A line frame's slots, all VOID (R14). -/
def LineSlots.void : LineSlots :=
  ⟨Vector.replicate 32 Slot.fill, Vector.replicate 32 Slot.fill⟩

/-- A tributary frame's slots, all VOID (R19). -/
def tributaryVoid : Vector Slot 64 :=
  Vector.replicate 64 Slot.fill

/-- The exclusive-or of the first `n` 32-bit groups of a payload, counted from its end. -/
def foldGroups : Nat → Payload → Word
  | 0, _ => 0#32
  | n + 1, p => p.extractLsb' (32 * n) 32 ^^^ foldGroups n p

/-- The exclusive-or of the payloads of a run of slots. -/
def payloadSum (slots : List Slot) : Payload :=
  slots.foldl (fun acc t => acc ^^^ t.payload) 0#9728

/-- The lane parity of a frame's payload (R12): payload bit i belongs to lane i mod 32, lane 0 is the most significant
bit. A slot's payload is 304 groups of 32 bits, so the lanes of all slots line up and are summed slot by slot first. -/
def laneParity (slots : LineSlots) : Word :=
  foldGroups 304 (payloadSum (slots.working.toList ++ slots.protection.toList))

/-- The number of lanes in which two parity words differ, 0 to 32 (R13). -/
def lanesInViolation (a b : Word) : Nat :=
  (List.range 32).countP fun j => a.getLsbD j != b.getLsbD j

/-! ### Signalling vectors (R65, R68, 11) -/

/-- Bytes 0 to 133 of a vector, which the vector check covers (R178). -/
def SigVector.bytes (v : SigVector) : List Byte :=
  [v.state, v.sender] ++ halfBytes v.ringId ++ halfBytes v.digest ++ v.entries.toList.flatMap halfBytes

/-- The vector with its check field computed (R65). -/
def SigVector.sealed (v : SigVector) : SigVector :=
  { v with check := checkOf v.bytes }

/-- The header states (11). -/
def standaloneCode : Byte := 0x01#8
def joinedCode : Byte := 0x02#8

/-- The reset vector of R6: STANDALONE, ring ID 0, sender 63, digest 0, all entries unknown. -/
def resetVector : SigVector :=
  SigVector.sealed
    { state := standaloneCode, sender := BitVec.ofNat 8 Config.aliasId, ringId := 0#16, digest := 0#16,
      entries := Vector.replicate 64 0#16, check := 0#16 }

/-! ### Management cells (R149, R150, 11) -/

/-- 48 bytes of 0x00 (R3). -/
def Cell.zero : Cell :=
  { kind := 0#8, route := 0#8, hop := 0#8, destination := 0#8, source := 0#8, tag := 0#8, operation := 0#8,
    status := 0#8, table := 0#8, count := 0#8, index := 0#16, headerCheck := 0#16, data := Vector.replicate 8 0#32,
    dataCheck := 0#16 }

/-- Cell bytes 0, 1 and 3 to 11: the header check leaves out the hop limit (R149, R178). -/
def Cell.headerBytes (c : Cell) : List Byte :=
  [c.kind, c.route, c.destination, c.source, c.tag, c.operation, c.status, c.table, c.count] ++ halfBytes c.index

/-- Cell bytes 14 to 45 (R178). -/
def Cell.dataBytes (c : Cell) : List Byte :=
  c.data.toList.flatMap wordBytes

/-- The cell with both checks computed afresh (R158, R170). -/
def Cell.sealed (c : Cell) : Cell :=
  { c with headerCheck := checkOf c.headerBytes, dataCheck := checkOf c.dataBytes }

/-- Kind codes (11). -/
def kindRequest : Byte := 1#8
def kindResponse : Byte := 2#8
def kindNotice : Byte := 3#8

/-- The header check of the Cell Router: the check agrees, the kind names one of the three, and neither destination nor
source is above 63 (R150). -/
def Cell.headerGood (c : Cell) : Bool :=
  c.headerCheck == checkOf c.headerBytes
    && (c.kind == kindRequest || c.kind == kindResponse || c.kind == kindNotice)
    && decide (c.destination.toNat ≤ 63) && decide (c.source.toNat ≤ 63)

/-- The data check of the Agent (R159). -/
def Cell.dataGood (c : Cell) : Bool :=
  c.dataCheck == checkOf c.dataBytes

/-- The hop limit as the Router reads it: above 31 is taken as 31 (R150). -/
def Cell.hopLimit (c : Cell) : Nat :=
  min c.hop.toNat 31

/-- Data word n of a cell. -/
def Cell.word (c : Cell) (n : Nat) : Word :=
  elementAt c.data n 0#32

/-- The management field that carries a cell, and the one that carries none (R3). -/
def Management.carrying (c : Cell) : Management := ⟨1#8, c⟩
def Management.absent : Management := ⟨0#8, Cell.zero⟩

/-- The presence flag is bit 0 of the flag byte (11). -/
def Management.present (m : Management) : Bool :=
  m.flag.getLsbD 0

/-- Route codes: EAST, WEST, LOCAL. -/
def Port.routeCode : Port → Nat
  | .east => 1
  | .west => 2
  | .tributary => 3

def Port.ofRoute : Nat → Option Port
  | 1 => some .east
  | 2 => some .west
  | 3 => some .tributary
  | _ => none

/-- The eleven commands (11, R163). -/
inductive CommandCode
  | forceEast
  | forceWest
  | manualEast
  | manualWest
  | park
  | clearEast
  | clearWest
  | clearPark
  | join
  | leave
  | restart
  deriving DecidableEq, Repr

def CommandCode.ofCode : Nat → Option CommandCode
  | 1 => some .forceEast
  | 2 => some .forceWest
  | 3 => some .manualEast
  | 4 => some .manualWest
  | 5 => some .park
  | 6 => some .clearEast
  | 7 => some .clearWest
  | 8 => some .clearPark
  | 9 => some .join
  | 10 => some .leave
  | 11 => some .restart
  | _ => none

/-- What a request asks for, by its operation and, for COMMAND, by data word 0 (R149, R159, log 14). -/
inductive Request
  | read
  | write
  | set
  | clear
  | readClear
  | commit
  | command (c : CommandCode)
  | poll
  | unknownOperation
  | unknownCommand
  deriving DecidableEq, Repr

def Cell.request (c : Cell) : Request :=
  match c.operation.toNat with
  | 1 => .read
  | 2 => .write
  | 3 => .set
  | 4 => .clear
  | 5 => .readClear
  | 6 => .commit
  | 7 =>
    match CommandCode.ofCode (c.word 0).toNat with
    | some k => .command k
    | none => .unknownCommand
  | 8 => .poll
  | _ => .unknownOperation

end Sys2Proof
end

