-- ==== Sys2Proof/Machine/State.lean ====
section
/-! DEFINITION. The state of the Corjant 4810, block by block as 00 Block Overview lists them, the reasons a step
can stop, and the state after reset. -/

namespace Sys2Proof.Machine

/-- A timer: stopped, or running with the local frame starts still to count, 0 once the last of them has been issued (R2). -/
abbrev Timer := Option Nat

/-- The alignment states of a Line Receiver (R7 to R9). -/
inductive Alignment
  | search
  | presync
  | aligned
  deriving DecidableEq, Repr

/-- A Line Receiver: alignment state, count of consecutive bad words, held frame parity (R7, R9, R13). -/
structure Receiver where
  align : Alignment
  badWords : Nat
  heldParity : Option Word
  deriving DecidableEq, Repr

/-- The states of an alignment buffer (R14). -/
inductive BufferMode
  | flushed
  | centering
  | running
  deriving DecidableEq, Repr

/-- An alignment buffer: its frames, oldest first, and the last frame read (R14). -/
structure Buffer where
  mode : BufferMode
  frames : List LineSlots
  last : Option LineSlots
  deriving DecidableEq, Repr

/-- What the three transmitters send in one local frame interval (R5). -/
structure SentFrames where
  east : LineFrame
  west : LineFrame
  tributary : TributaryFrame
  deriving DecidableEq, Repr

/-- The defect set of a side (R20 to R25). -/
structure Defects where
  los : Bool
  lof : Bool
  mute : Bool
  miswired : Bool
  excessive : Bool
  deriving DecidableEq, Repr

/-- The hold-off states (R26). -/
inductive HoldOff
  | absent
  | holding
  | standing
  deriving DecidableEq, Repr

/-- The quality states (R36). -/
inductive Quality
  | good
  | fading
  | excessive
  deriving DecidableEq, Repr

/-- A Span Monitor (02, opening table). -/
structure Monitor where
  defects : Defects
  flag : Bool
  muteCount : Nat
  holdOff : HoldOff
  holdOffTimer : Timer
  density : Nat
  quality : Quality
  settle : Timer
  deriving DecidableEq, Repr

/-- The span conditions in priority order (00 Conditions). -/
inductive Condition
  | idle
  | hold
  | manual
  | fade
  | cut
  | force
  | park
  deriving DecidableEq, Repr

/-- The detected conditions (R86). -/
inductive Detected
  | idle
  | fade
  | cut
  | hold
  deriving DecidableEq, Repr

/-- The operator command of a side (R92). -/
inductive SideCommand
  | none
  | manual
  | force
  deriving DecidableEq, Repr

/-- The Condition Unit's state of one side (R86, R90, R92, R98). -/
structure ConditionSide where
  detected : Detected
  wtr : Timer
  command : SideCommand
  announced : Condition
  deriving DecidableEq, Repr

/-- The actions (00 Actions). -/
inductive Action
  | pass
  | bridged
  | looped
  deriving DecidableEq, Repr

/-- Where the content of a learned entry came from (R60). -/
inductive Source
  | own
  | line (x : Side)
  deriving DecidableEq, Repr

/-- An entry of the Ring Condition Table; it is learned exactly when it has a source (R60, R61). -/
structure Entry where
  condition : Condition
  action : Action
  edition : Fin 16
  source : Option Source
  deriving DecidableEq, Repr

/-- An own entry (R62). -/
structure OwnEntry where
  condition : Condition
  action : Action
  edition : Fin 16
  deriving DecidableEq, Repr

/-- The Signalling Unit (04, opening table). Entry (p, East) is entry 2p and (p, West) entry 2p + 1; the own entries
have their home in `own` and are seen in the table at the own position while JOINED (R62). -/
structure Signalling where
  rct : Vector Entry 64
  own : Sides OwnEntry
  neighbourStandalone : Sides Bool
  mapMismatch : Sides Bool
  deriving DecidableEq, Repr

/-- The roles (R105). -/
inductive Role
  | detached
  | isolated
  | loopEast
  | loopWest
  | transit
  | drain
  | normal
  deriving DecidableEq, Repr

/-- The Restoration Resolver: R with span s in bit s, own segment as first and last position going east, ring-quiet
flag, role, loop targets (05, second opening table). -/
structure Resolver where
  restored : Bits
  segment : Option (Nat × Nat)
  ringQuiet : Bool
  role : Role
  target : Sides Bool
  deriving DecidableEq, Repr

/-- The states of a Loop Engine (R109). -/
inductive Phase
  | idle
  | bridged
  | looped
  | unlooping
  deriving DecidableEq, Repr

/-- A Loop Engine: state, confirm timer, PARTNER-SILENT (06, opening table). -/
structure Engine where
  phase : Phase
  confirm : Timer
  silent : Bool
  deriving DecidableEq, Repr

/-- Strap value, node ID in use, mode and own position (03, opening table). -/
structure Identity where
  strap : BitVec 6
  nodeId : BitVec 6
  joined : Bool
  position : Option (Fin 32)
  deriving DecidableEq, Repr

/-- The Ring Map: N, ring ID, and at each position nothing or a node ID 0 to 62 (R50). -/
structure RingMap where
  n : Nat
  ringId : Half
  ids : Vector (Option (Fin 63)) 32
  deriving DecidableEq, Repr

/-- The Profile (R162). -/
structure Profile where
  weight : Sides Half
  tOn : Sides Half
  tOff : Sides Half
  tFail : Sides Half
  holdOffTime : Nat
  settleTime : Nat
  wtrTime : Nat
  confirmTimeout : Nat
  responseHop : Nat
  pollSelector : Fin 4
  noticeDestination : BitVec 6
  noticeRoute : Port
  deriving DecidableEq, Repr

/-- The out-source of a Slot Map or Extra Map record, with the add tributary that ADD alone stores (R129). -/
inductive OutSource
  | void
  | through
  | add (t : Fin 64)
  deriving DecidableEq, Repr

/-- A Slot Map or Extra Map record (R129, R130). -/
structure SlotRecord where
  source : OutSource
  drop : Option (Fin 64)
  deriving DecidableEq, Repr

/-- A present Circuit Table record (R131). -/
structure Circuit where
  origin : Fin 63
  terminus : Fin 63
  restore : Bool
  deriving DecidableEq, Repr

/-- The two banks of a table of 64 records: indices 0 to 31 eastbound or East, 32 to 63 westbound or West (R132). -/
structure Banks (α : Type) where
  standby : Vector α 64
  active : Vector α 64
  deriving DecidableEq, Repr

/-- A valid COMMIT that waits for its swap: the port with the reserved place, the request, and the node ID in use at
the execution, which the DONE response carries (R136, R137, R158; log 10). -/
structure PendingCommit where
  port : Port
  request : Cell
  sourceId : BitVec 6
  deriving DecidableEq, Repr

/-- The connection tables; the commit-pending flag is set exactly when `commit` is present (07, opening table). -/
structure Tables where
  slot : Banks SlotRecord
  extra : Banks SlotRecord
  circuit : Banks (Option Circuit)
  commit : Option PendingCommit
  retryFlag : Bool
  deriving DecidableEq, Repr

/-- The squelch results, slot k in bit k, with SQUELCHING and TABLE-FAULT (R144, R146). -/
structure Squelch where
  results : Sides Bits
  squelching : Bool
  tableFault : Bool
  deriving DecidableEq, Repr

/-- A transmit queue: cells oldest first, and the places reserved by the Agent (R155). -/
structure TransmitQueue where
  cells : List Cell
  reserved : Nat
  deriving DecidableEq, Repr

/-- The Event Unit's registers. `pulses` and `attempts` are the model's own: the pulse events of the event being taken
(R167, log 24), and the send attempts prompted and not yet taken (R171, log 16). -/
structure EventUnit where
  held : Word
  latches : Word
  rise : Word
  fall : Word
  notify : Word
  alert : Word
  pulses : Word
  pending : Bool
  sequence : Byte
  attempts : Nat
  deriving DecidableEq, Repr

/-- How far the local frame start of the present instant has been taken; the model's own (R1, R19, R137; log 6). -/
structure FrameInstant where
  /-- It has been issued, and its frames are still to be built. -/
  begun : Bool
  /-- The Table Store has still to take it. -/
  swapTurn : Bool
  deriving DecidableEq, Repr

/-- The state of the part, and the queue of the commands that wait. -/
structure State where
  /-- The level of RESET_N: true is high (R1, R6). -/
  resetN : Bool
  /-- The levels of LOS_E and LOS_W: true is high, asserted (R10). -/
  losPin : Sides Bool
  /-- The local frame count (R1). -/
  frameCount : Word
  /-- The local frame start of the present instant (the model's own, log 6). -/
  instant : FrameInstant
  /-- The Line Receivers (R7 to R13). -/
  receiver : Sides Receiver
  /-- The alignment buffers (R14 to R18). -/
  buffer : Sides Buffer
  /-- The tributary holder: absent when empty (R4). -/
  holder : Option (Vector Slot 64)
  /-- The lane parity of the last line frame sent on each side (R5, R6, R12). -/
  sentParity : Sides Word
  /-- The frames begun at the last local frame start; the model's record of the output ports (log 13). -/
  sent : Option SentFrames
  /-- The Span Monitors (R20 to R45). -/
  monitor : Sides Monitor
  /-- The Condition Unit's state of each side (R86 to R98). -/
  condition : Sides ConditionSide
  /-- The PARK command (R92). -/
  park : Bool
  /-- The Signalling Unit (R60 to R85). -/
  signalling : Signalling
  /-- The Restoration Resolver (R100 to R107). -/
  resolver : Resolver
  /-- The Loop Engines (R109 to R128). -/
  engine : Sides Engine
  /-- Straps, node ID in use, mode and own position (R46 to R54). -/
  identity : Identity
  /-- The Ring Map (R50). -/
  ringMap : RingMap
  /-- The Profile (R162). -/
  profile : Profile
  /-- The connection tables with their commit-pending and retry flags (R129 to R137). -/
  tables : Tables
  /-- The squelch results and the conditions kept from them (R144, R146). -/
  squelch : Squelch
  /-- The request queues, oldest first (R154). -/
  requests : Ports (List Cell)
  /-- The transmit queues (R155). -/
  transmit : Ports TransmitQueue
  /-- The round-robin pointer (R157). -/
  pointer : Port
  /-- The Event Unit's registers (R166 to R171). -/
  events : EventUnit
  /-- The 18 counters in the order of R173. -/
  counters : Vector Word 18
  /-- The level of ALERT_N: true is released (R172). -/
  alertN : Bool
  /-- The commands that wait, first in, first out (the model's own). -/
  pending : List Instr
  deriving DecidableEq, Repr

/-- The faults of the part: none. Every event of the manual has an effect or is answered by a status (R159), so no
constructor is needed, and nothing raises a fault. -/
inductive Fault
  deriving DecidableEq, Repr

/-- The refusals. -/
inductive Refusal
  /-- Raised by exec for a command that has no meaning yet; no command is left so. Safe: the machine stops. -/
  | notModelled (mnemonic : String)
  deriving DecidableEq, Repr

/-! ### One update for each field of State -/

def State.setResetN (s : State) (v : Bool) : State := { s with resetN := v }
def State.setLosPin (s : State) (v : Sides Bool) : State := { s with losPin := v }
def State.setFrameCount (s : State) (v : Word) : State := { s with frameCount := v }
def State.setInstant (s : State) (v : FrameInstant) : State := { s with instant := v }
def State.setReceiver (s : State) (v : Sides Receiver) : State := { s with receiver := v }
def State.setBuffer (s : State) (v : Sides Buffer) : State := { s with buffer := v }
def State.setHolder (s : State) (v : Option (Vector Slot 64)) : State := { s with holder := v }
def State.setSentParity (s : State) (v : Sides Word) : State := { s with sentParity := v }
def State.setSent (s : State) (v : Option SentFrames) : State := { s with sent := v }
def State.setMonitor (s : State) (v : Sides Monitor) : State := { s with monitor := v }
def State.setCondition (s : State) (v : Sides ConditionSide) : State := { s with condition := v }
def State.setPark (s : State) (v : Bool) : State := { s with park := v }
def State.setSignalling (s : State) (v : Signalling) : State := { s with signalling := v }
def State.setResolver (s : State) (v : Resolver) : State := { s with resolver := v }
def State.setEngine (s : State) (v : Sides Engine) : State := { s with engine := v }
def State.setIdentity (s : State) (v : Identity) : State := { s with identity := v }
def State.setRingMap (s : State) (v : RingMap) : State := { s with ringMap := v }
def State.setProfile (s : State) (v : Profile) : State := { s with profile := v }
def State.setTables (s : State) (v : Tables) : State := { s with tables := v }
def State.setSquelch (s : State) (v : Squelch) : State := { s with squelch := v }
def State.setRequests (s : State) (v : Ports (List Cell)) : State := { s with requests := v }
def State.setTransmit (s : State) (v : Ports TransmitQueue) : State := { s with transmit := v }
def State.setPointer (s : State) (v : Port) : State := { s with pointer := v }
def State.setEvents (s : State) (v : EventUnit) : State := { s with events := v }
def State.setCounters (s : State) (v : Vector Word 18) : State := { s with counters := v }
def State.setAlertN (s : State) (v : Bool) : State := { s with alertN := v }
def State.setPending (s : State) (v : List Instr) : State := { s with pending := v }

/-! ### The reset state -/

/-- R7, R9, R13. -/
def Receiver.reset : Receiver := ⟨.search, 0, none⟩

/-- R14. -/
def Buffer.reset : Buffer := ⟨.flushed, [], none⟩

/-- R42: LOF is present, LOS as the pin is. -/
def Monitor.reset (los : Bool) : Monitor :=
  { defects := ⟨los, true, false, false, false⟩, flag := true, muteCount := 0, holdOff := .absent,
    holdOffTimer := none, density := 0, quality := .good, settle := none }

/-- 05, opening table. -/
def ConditionSide.reset : ConditionSide := ⟨.idle, none, .none, .idle⟩

/-- R61: an unlearned entry. -/
def Entry.unlearned : Entry := ⟨.idle, .pass, 0, none⟩

/-- R82. -/
def OwnEntry.reset : OwnEntry := ⟨.idle, .pass, 0⟩

/-- R82. -/
def Signalling.reset : Signalling :=
  { rct := Vector.replicate 64 Entry.unlearned, own := ⟨OwnEntry.reset, OwnEntry.reset⟩,
    neighbourStandalone := ⟨false, false⟩, mapMismatch := ⟨false, false⟩ }

/-- R100, 05 second opening table. -/
def Resolver.reset : Resolver := ⟨0#32, none, true, .detached, ⟨false, false⟩⟩

/-- R127. -/
def Engine.reset : Engine := ⟨.idle, none, false⟩

/-- R46, R47, R54. -/
def Identity.reset (straps : BitVec 6) : Identity := ⟨straps, straps, false, none⟩

/-- R50. -/
def RingMap.reset : RingMap := ⟨0, 0#16, Vector.replicate 32 none⟩

/-- The defaults of R162. -/
def Profile.reset : Profile :=
  { weight := ⟨64#16, 64#16⟩, tOn := ⟨0x0419#16, 0x0419#16⟩, tOff := ⟨0x0069#16, 0x0069#16⟩,
    tFail := ⟨0x9000#16, 0x9000#16⟩, holdOffTime := 0, settleTime := 100, wtrTime := 300, confirmTimeout := 50,
    responseHop := 31, pollSelector := 0, noticeDestination := 63#6, noticeRoute := .tributary }

/-- A record with out-source VOID and no drop is UNUSED (R129). -/
def SlotRecord.unused : SlotRecord := ⟨.void, none⟩

/-- R132. -/
def Banks.uniform {α : Type} (a : α) : Banks α := ⟨Vector.replicate 64 a, Vector.replicate 64 a⟩

/-- R132. -/
def Tables.reset : Tables :=
  ⟨Banks.uniform SlotRecord.unused, Banks.uniform SlotRecord.unused, Banks.uniform none, none, false⟩

/-- 07, opening table. -/
def Squelch.reset : Squelch := ⟨⟨0#32, 0#32⟩, false, false⟩

/-- R155. -/
def TransmitQueue.empty : TransmitQueue := ⟨[], 0⟩

/-- 09, opening table, and R166: LOF of each side is held present, LOS as its pin is. -/
def EventUnit.reset (los : Sides Bool) : EventUnit :=
  { held := 0x00000402#32 ||| (if los.east then 0x00000001#32 else 0#32) ||| (if los.west then 0x00000200#32 else 0#32),
    latches := 0#32, rise := Config.sourceMask, fall := Config.liveMask, notify := 0#32, alert := 0#32,
    pulses := 0#32, pending := false, sequence := 0#8, attempts := 0 }

/-- The machine right after the rising edge of RESET_N, with the strap and LOS levels of log 4 (R1, R6, R42, R46, R50,
R82, R127, R132, R162, R166). -/
def State.reset : State :=
  { resetN := true
    losPin := Config.resetLos
    frameCount := 0#32
    instant := ⟨false, false⟩
    receiver := ⟨Receiver.reset, Receiver.reset⟩
    buffer := ⟨Buffer.reset, Buffer.reset⟩
    holder := none
    sentParity := ⟨0#32, 0#32⟩
    sent := none
    monitor := ⟨Monitor.reset Config.resetLos.east, Monitor.reset Config.resetLos.west⟩
    condition := ⟨ConditionSide.reset, ConditionSide.reset⟩
    park := false
    signalling := Signalling.reset
    resolver := Resolver.reset
    engine := ⟨Engine.reset, Engine.reset⟩
    identity := Identity.reset Config.resetStraps
    ringMap := RingMap.reset
    profile := Profile.reset
    tables := Tables.reset
    squelch := Squelch.reset
    requests := ⟨[], [], []⟩
    transmit := ⟨TransmitQueue.empty, TransmitQueue.empty, TransmitQueue.empty⟩
    pointer := .east
    events := EventUnit.reset Config.resetLos
    counters := Vector.replicate 18 0#32
    alertN := true
    pending := [] }

end Sys2Proof.Machine
end

