-- ==== Sys2Proof/Machine/Operands.lean ====
section
/-! DEFINITION. The operand forms: the codes of the conditions, actions, states and statuses, the entry words of a
vector, rate codes, the estimator and the evaluation of quality. -/

namespace Sys2Proof.Machine

/-! ### Codes (00, 11) -/

/-- Condition codes (00 Conditions). -/
def Condition.code : Condition → Nat
  | .idle => 0
  | .hold => 1
  | .manual => 2
  | .fade => 3
  | .cut => 4
  | .force => 5
  | .park => 6

/-- Code 7 is not a condition (00 Conditions). -/
def Condition.ofCode : Nat → Option Condition
  | 0 => some .idle
  | 1 => some .hold
  | 2 => some .manual
  | 3 => some .fade
  | 4 => some .cut
  | 5 => some .force
  | 6 => some .park
  | _ => none

/-- The higher of two conditions, by code (00 Conditions). -/
def Condition.higher (a b : Condition) : Condition :=
  if a.code < b.code then b else a

/-- Action codes (00 Actions). -/
def Action.code : Action → Nat
  | .pass => 0
  | .bridged => 1
  | .looped => 2

/-- Code 3 is not an action (00 Actions). -/
def Action.ofCode : Nat → Option Action
  | 0 => some .pass
  | 1 => some .bridged
  | 2 => some .looped
  | _ => none

/-- The condition a detected condition contributes (R86). -/
def Detected.condition : Detected → Condition
  | .idle => .idle
  | .fade => .fade
  | .cut => .cut
  | .hold => .hold

/-- The condition a side command contributes: NONE counts as IDLE (R98). -/
def SideCommand.condition : SideCommand → Condition
  | .none => .idle
  | .manual => .manual
  | .force => .force

/-- The action announced for an engine state (R62, R109). -/
def Phase.action : Phase → Action
  | .idle => .pass
  | .bridged => .bridged
  | .looped => .looped
  | .unlooping => .bridged

def Phase.code : Phase → Nat
  | .idle => 0
  | .bridged => 1
  | .looped => 2
  | .unlooping => 3

def Role.code : Role → Nat
  | .detached => 0
  | .isolated => 1
  | .loopEast => 2
  | .loopWest => 3
  | .transit => 4
  | .drain => 5
  | .normal => 6

def Alignment.code : Alignment → Nat
  | .search => 0
  | .presync => 1
  | .aligned => 2

def BufferMode.code : BufferMode → Nat
  | .flushed => 0
  | .centering => 1
  | .running => 2

def HoldOff.code : HoldOff → Nat
  | .absent => 0
  | .holding => 1
  | .standing => 2

def Quality.code : Quality → Nat
  | .good => 0
  | .fading => 1
  | .excessive => 2

/-- Source codes of table 9: 0 none, 1 OWN, 2 EAST, 3 WEST. -/
def sourceCode : Option Source → Nat
  | none => 0
  | some .own => 1
  | some (.line .east) => 2
  | some (.line .west) => 3

/-- The statuses of a response (08 Statuses). -/
inductive Status
  | done
  | retry
  | refused
  | range
  | invalid
  | check
  | unknown
  deriving DecidableEq, Repr

def Status.code : Status → Nat
  | .done => 0
  | .retry => 1
  | .refused => 2
  | .range => 3
  | .invalid => 4
  | .check => 5
  | .unknown => 6

/-! ### Entry words of a vector (R65, 11) -/

/-- An entry word: known in bit 15, condition in bits 14 to 12, action in bits 11 and 10, edition in bits 9 to 6 (11). -/
def entryWord (known : Bool) (c : Condition) (a : Action) (e : Fin 16) : Half :=
  BitVec.ofNat 16 (known.toNat * 2 ^ 15 + c.code * 2 ^ 12 + a.code * 2 ^ 10 + e.val * 2 ^ 6)

def entryKnown (h : Half) : Bool :=
  h.getLsbD 15

def entryCondition (h : Half) : Option Condition :=
  Condition.ofCode (h.extractLsb' 12 3).toNat

def entryAction (h : Half) : Option Action :=
  Action.ofCode (h.extractLsb' 10 2).toNat

def entryEdition (h : Half) : Fin 16 :=
  (h.extractLsb' 6 4).toFin

/-! ### Rate codes and thresholds (R33, R34, R35) -/

/-- The value a rate code stands for (R33). -/
def rateValue (c : Half) : Nat :=
  let e := (c.extractLsb' 12 4).toNat
  let m := (c.extractLsb' 0 12).toNat
  if e = 0 then m else (4096 + m) * 2 ^ (e - 1)

/-- The rate code that reports d (R34). -/
def rateCode (d : Nat) : Half :=
  if d < 4096 then BitVec.ofNat 16 d
  else
    let e := Nat.log2 d - 11
    let u := 2 ^ (e - 1)
    let q := (2 * d + u) / (2 * u)
    if q = 8192 then BitVec.ofNat 16 ((e + 1) * 4096) else BitVec.ofNat 16 (e * 4096 + (q - 4096))

/-- The step of an estimator update: diff × w / 65536 rounded to the nearest integer, halfway away from zero, and at
least 1 in size while diff is not 0 (R30 steps 4 to 6). -/
def estimatorStep (diff : Int) (w : Nat) : Int :=
  let size := (diff.natAbs * w + 32768) / 65536
  let moved := if size = 0 ∧ diff ≠ 0 then 1 else size
  if diff < 0 then -(moved : Int) else (moved : Int)

/-- The new d after a parity result v under weight w (R30). -/
def estimate (d v w : Nat) : Nat :=
  if w = 0 then d
  else min Config.densityMax ((d : Int) + estimatorStep ((v * Config.densityUnit : Nat) - (d : Int)) w).toNat

/-- One evaluation of quality by d and the decoded thresholds, T_off and T_fail used through their effective values
(R35, R37). -/
def evaluateQuality (tOn tOff tFail : Half) (q : Quality) (d : Nat) : Quality :=
  let on := rateValue tOn
  let off := min (rateValue tOff) on
  let fail := max (rateValue tFail) on
  match q with
  | .good => if fail ≤ d then .excessive else if on ≤ d then .fading else .good
  | .fading => if fail ≤ d then .excessive else if d < off then .good else .fading
  | .excessive => if d < off then .good else if d < on then .fading else .excessive

end Sys2Proof.Machine
end

