-- ==== Sys2Proof/Machine/Ops.lean ====
section
/-! DEFINITION. The named operations over registers, timers, counters, pulse events and queues that the commands share. -/

namespace Sys2Proof

/-- A side's or port's value changed in place. -/
def Sides.update {α : Type} (v : Sides α) (x : Side) (f : α → α) : Sides α :=
  v.set x (f (v.get x))

def Ports.update {α : Type} (v : Ports α) (q : Port) (f : α → α) : Ports α :=
  v.set q (f (v.get q))

namespace Machine

/-! ### Timers (R2) -/

/-- A timer of `units` of 10 ms, started; a duration of 0 is for its starter to expire at once (R2). -/
def startUnits (units : Nat) : Timer :=
  some (Config.framesPerUnit * units)

/-- A timer of whole seconds, started (R2). -/
def startSeconds (seconds : Nat) : Timer :=
  some (Config.framesPerSecond * seconds)

/-- A running timer is due once the local frame start that ends its count has been issued; its expiry is taken in that
instant, before or after the frames are built (R2, R19, R125; log 6). -/
def timerDue (t : Timer) : Bool :=
  t == some 0

/-- One local frame start counted (R2). -/
def countDown (t : Timer) : Timer :=
  t.map (· - 1)

/-- The local frame starts left in units of `unit`, rounded up; 0 while the timer is stopped (R90, R128). -/
def remainingIn (unit : Nat) (t : Timer) : Nat :=
  match t with
  | some n => (n + (unit - 1)) / unit
  | none => 0

/-! ### Updates of one side -/

def State.updateReceiver (s : State) (x : Side) (f : Receiver → Receiver) : State :=
  s.setReceiver (s.receiver.update x f)

def State.updateBuffer (s : State) (x : Side) (f : Buffer → Buffer) : State :=
  s.setBuffer (s.buffer.update x f)

def State.updateMonitor (s : State) (x : Side) (f : Monitor → Monitor) : State :=
  s.setMonitor (s.monitor.update x f)

def State.updateCondition (s : State) (x : Side) (f : ConditionSide → ConditionSide) : State :=
  s.setCondition (s.condition.update x f)

def State.updateEngine (s : State) (x : Side) (f : Engine → Engine) : State :=
  s.setEngine (s.engine.update x f)

def State.updateOwn (s : State) (x : Side) (f : OwnEntry → OwnEntry) : State :=
  s.setSignalling { s.signalling with own := s.signalling.own.update x f }

/-- The part is JOINED (R54). -/
def State.joined (s : State) : Bool :=
  s.identity.joined

/-! ### Counters (R173) -/

/-- The 18 counters. -/
inductive Counter
  | violations (x : Side)
  | erroredFrames (x : Side)
  | alignmentLosses (x : Side)
  | slips (x : Side)
  | vectorsDiscarded (x : Side)
  | entriesIgnored (x : Side)
  | cellsDiscarded (x : Side)
  | transitDrops
  | requestOverflows
  | retries
  | tributaryCellsDiscarded
  deriving DecidableEq, Repr

/-- The first index of a side's counters in table 11 (R173). -/
def counterBase : Side → Fin 18
  | .east => 0
  | .west => 7

/-- The index of a counter in table 11 (R173). -/
def Counter.index : Counter → Fin 18
  | .violations x => counterBase x
  | .erroredFrames x => counterBase x + 1
  | .alignmentLosses x => counterBase x + 2
  | .slips x => counterBase x + 3
  | .vectorsDiscarded x => counterBase x + 4
  | .entriesIgnored x => counterBase x + 5
  | .cellsDiscarded x => counterBase x + 6
  | .transitDrops => 14
  | .requestOverflows => 15
  | .retries => 16
  | .tributaryCellsDiscarded => 17

/-- The top value of a counter (R173). -/
def counterTop : Word := 0xFFFFFFFF#32

/-- An advance stops at the top; the part beyond it is not kept (R173). -/
def advanced (c : Word) (n : Nat) : Word :=
  BitVec.ofNat 32 (min (c.toNat + n) counterTop.toNat)

/-- The value of a counter. -/
def State.count (s : State) (c : Counter) : Word :=
  s.counters[c.index]

/-- A counter advances by n (R173). -/
def State.bump (s : State) (c : Counter) (n : Nat) : State :=
  s.setCounters (s.counters.set c.index (advanced s.counters[c.index] n))

/-! ### Pulse events (R167) -/

/-- The six pulse events. -/
inductive Pulse
  | slip (x : Side)
  | commandDropped
  | commitDone
  | requestOverflow
  | transitDrop
  deriving DecidableEq, Repr

/-- The position of a pulse event in the words of table 12 (11, Event bits). -/
def Pulse.bit : Pulse → Nat
  | .slip .east => 25
  | .slip .west => 26
  | .commandDropped => 27
  | .commitDone => 28
  | .requestOverflow => 29
  | .transitDrop => 30

/-- An occurrence of a pulse event, handed to the Event Unit in the event being taken (R167). -/
def State.raise (s : State) (p : Pulse) : State :=
  s.setEvents { s.events with pulses := s.events.pulses ||| (1#32 <<< p.bit) }

/-! ### Queues (R154, R155) -/

/-- The occupancy is the cells held and the reserved places (R155). -/
def TransmitQueue.occupancy (t : TransmitQueue) : Nat :=
  t.cells.length + t.reserved

/-- A queue has a free place while its occupancy is below 8 (R155). -/
def TransmitQueue.hasPlace (t : TransmitQueue) : Bool :=
  decide (t.occupancy < Config.transmitCapacity)

/-- A cell enters at the tail (R155). -/
def TransmitQueue.push (t : TransmitQueue) (c : Cell) : TransmitQueue :=
  { t with cells := t.cells ++ [c] }

/-- The transmitter removes the oldest cell (R5, R155). -/
def TransmitQueue.pop (t : TransmitQueue) : TransmitQueue :=
  { t with cells := t.cells.tail }

/-- The Agent reserves one place (R157). -/
def TransmitQueue.reserve (t : TransmitQueue) : TransmitQueue :=
  { t with reserved := t.reserved + 1 }

/-- A response is written into a reserved place: it joins the tail, and the reservation ends (R155). -/
def TransmitQueue.fulfil (t : TransmitQueue) (c : Cell) : TransmitQueue :=
  { cells := t.cells ++ [c], reserved := t.reserved - 1 }

def State.updateTransmit (s : State) (q : Port) (f : TransmitQueue → TransmitQueue) : State :=
  s.setTransmit (s.transmit.update q f)

/-- The response fields of R158: the request's fields copied, the status and data words filled in, words not filled 0,
both checks computed afresh. -/
def responseCell (q : Port) (request : Cell) (hop : Nat) (sourceId : BitVec 6) (count : Byte) (st : Status)
    (words : List Word) : Cell :=
  Cell.sealed
    { kind := kindResponse, route := BitVec.ofNat 8 q.routeCode, hop := BitVec.ofNat 8 hop,
      destination := request.source, source := sourceId.setWidth 8, tag := request.tag,
      operation := request.operation, status := BitVec.ofNat 8 st.code, table := request.table, count := count,
      index := request.index, headerCheck := 0#16, data := Vector.ofFn fun i : Fin 8 => words.getD i.val 0#32,
      dataCheck := 0#16 }

end Machine

end Sys2Proof
end

