-- ==== Sys2Proof/Machine/Flags.lean ====
section
/-! DEFINITION. The Event Unit: live conditions, latches, notices and ALERT_N (R166 to R172), and the end of an event,
at which own editions advance (R63) and the Event Unit takes what changed (R166). -/

namespace Sys2Proof.Machine

/-! ### Live conditions (R166, 11 Event bits) -/

/-- The nine live conditions of a side, in the order of bits 0 to 8 and 9 to 17. -/
def sideConditions (s : State) (x : Side) : List Bool :=
  let m := s.monitor.get x
  [m.defects.los, m.defects.lof, m.defects.mute, m.defects.miswired, m.defects.excessive, m.quality == .fading,
    (s.engine.get x).silent, s.signalling.neighbourStandalone.get x, s.signalling.mapMismatch.get x]

/-- RESTORING: R is not empty (R107). -/
def restoring (s : State) : Bool :=
  s.resolver.restored != 0#32

/-- ISOLATED: the role is ISOLATED (R107). -/
def isolated (s : State) : Bool :=
  s.resolver.role == .isolated

/-- EXTRA-HELD: JOINED and the role is not NORMAL (R107). -/
def extraHeld (s : State) : Bool :=
  s.joined && s.resolver.role != .normal

/-- LOOPED: either engine is not IDLE (R128). -/
def anyLooped (s : State) : Bool :=
  s.engine.east.phase != .idle || s.engine.west.phase != .idle

/-- COUNTER-SATURATED: at least one counter holds the top value (R173). -/
def counterSaturated (s : State) : Bool :=
  s.counters.toList.any (· == counterTop)

/-- The seven live conditions of the node, in the order of bits 18 to 24. -/
def nodeConditions (s : State) : List Bool :=
  [restoring s, isolated s, extraHeld s, anyLooped s, s.squelch.squelching, s.squelch.tableFault, counterSaturated s]

/-- The live conditions as their blocks leave them, one position for each source (11 Event bits). -/
def liveValues (s : State) : Word :=
  BitVec.ofFnLE fun i : Fin 32 => (sideConditions s .east ++ sideConditions s .west ++ nodeConditions s).getD i.val false

/-! ### Notices (R170, R171) -/

/-- The notice, with the latches, live values and local frame count of the moment it is written (R170). -/
def noticeCell (s : State) : Cell :=
  Cell.sealed
    { kind := kindNotice, route := BitVec.ofNat 8 s.profile.noticeRoute.routeCode,
      hop := BitVec.ofNat 8 s.profile.responseHop, destination := s.profile.noticeDestination.setWidth 8,
      source := s.identity.nodeId.setWidth 8, tag := s.events.sequence, operation := 1#8,
      status := BitVec.ofNat 8 Status.done.code, table := 12#8, count := 3#8, index := 0#16, headerCheck := 0#16,
      data := Vector.ofFn fun i : Fin 8 => [s.events.latches, s.events.held, s.frameCount].getD i.val 0#32,
      dataCheck := 0#16 }

/-- The notice is written at the tail of the queue its route names, and the sequence number advances (R170). The
notice-pending flag, and with it the send attempts it had prompted, is then clear (R171). -/
def writeNotice (s : State) : State :=
  (s.updateTransmit s.profile.noticeRoute (·.push (noticeCell s))).setEvents
    { s.events with sequence := s.events.sequence + 1#8, pending := false, attempts := 0 }

/-- The queue named by the notice route has a free place (R170). -/
def noticeHasPlace (s : State) : Bool :=
  (s.transmit.get s.profile.noticeRoute).hasPlace

/-- A prompt writes the notice, or sets the notice-pending flag where the queue is full; while the flag is set it writes
nothing (R170, R171). -/
def promptNotice (s : State) : State :=
  if s.events.pending then s
  else if noticeHasPlace s then writeNotice s
  else s.setEvents { s.events with pending := true }

/-! ### Latches and ALERT_N (R168, R172) -/

/-- The latches that the rises, falls and occurrences of the event ask for (R166, R167, R168). -/
def latchRequests (s : State) (now : Word) : Word :=
  (now &&& ~~~s.events.held &&& s.events.rise) ||| (s.events.held &&& ~~~now &&& s.events.fall)
    ||| (s.events.pulses &&& s.events.rise)

/-- ALERT_N is low while a latch whose alert enable is 1 is set (R172). -/
def formAlert (s : State) : State :=
  s.setAlertN (s.events.latches &&& s.events.alert == 0#32)

/-- Held values follow their live conditions, and the latches asked for are set (R166 to R168). -/
def latched (s : State) : State :=
  s.setEvents
    { s.events with
      held := liveValues s, latches := s.events.latches ||| latchRequests s (liveValues s), pulses := 0#32 }

/-- The Event Unit at the end of an event: held values follow, latches set, at most one notice is prompted, and ALERT_N
takes its level (R166 to R172). -/
def observe (s : State) : State :=
  let newly := latchRequests s (liveValues s) &&& ~~~s.events.latches
  formAlert (if newly &&& s.events.notify == 0#32 then latched s else promptNotice (latched s))

/-- The Event Unit at the end of a READ-CLEAR, which prompts no notice, whatever latch it sets. DEDUCED (log 26): so the last
sentence of R170 on prompts is read, beside its first, where clearing a counter makes COUNTER-SATURATED fall. -/
def observeReadClear (s : State) : State :=
  formAlert (latched s)

/-! ### The end of an event -/

/-- An own entry's content is its condition and action together (R63). -/
def OwnEntry.content (o : OwnEntry) : Condition × Action :=
  (o.condition, o.action)

/-- The edition advances by one, modulo 16, if the content differs from the content at the start of the event (R63). -/
def OwnEntry.advance (start now : OwnEntry) : OwnEntry :=
  if now.content = start.content then now else { now with edition := now.edition + 1 }

/-- R63, for both own entries. -/
def advanceEditions (start s : State) : State :=
  s.setSignalling
    { s.signalling with
      own := ⟨start.signalling.own.east.advance s.signalling.own.east,
              start.signalling.own.west.advance s.signalling.own.west⟩ }

/-- One event of the part: what the blocks do, then the own editions (R63), then the Event Unit (R166). -/
def event (f : State → State) (s : State) : State :=
  observe (advanceEditions s (f s))

/-- A READ-CLEAR as one event (R160, R169, R170, R174). -/
def readClearEvent (f : State → State) (s : State) : State :=
  observeReadClear (advanceEditions s (f s))

end Sys2Proof.Machine
end

