-- ==== Sys2Proof/Machine/RingTable.lean ====
section
/-! DEFINITION. The Ring Map's derived values (R52, R53, R145) and the Signalling Unit: the Ring Condition Table,
the outgoing vector, the acceptance and the merge of received vectors (R60 to R85). -/

namespace Sys2Proof.Machine

/-! ### The Ring Map (R50 to R53, R145) -/

/-- The entry of position p. -/
def RingMap.idAt (m : RingMap) (p : Nat) : Option (Fin 63) :=
  elementAt m.ids p none

/-- What position p adds to the digest: an empty entry counts as 0 (R52). -/
def RingMap.digestTerm (m : RingMap) (p : Nat) : Nat :=
  match m.idAt p with
  | some id => (p + 1) * id.val
  | none => 0

/-- The map digest (R52). -/
def RingMap.digest (m : RingMap) : Half :=
  BitVec.ofNat 16 (m.n * 4096 + ((List.range m.n).map m.digestTerm).sum)

/-- The position below N whose entry equals the node ID; absent when there is none (R145). -/
def RingMap.positionOf (m : RingMap) (id : Nat) : Option Nat :=
  (List.range m.n).find? fun p => (m.idAt p).any (·.val == id)

/-- The span that a side faces at position p of a ring of n nodes (00 Spans and sides). -/
def spanFaced (n p : Nat) : Side → Nat
  | .east => p
  | .west => (p + n - 1) % n

/-- The position across the span that a side faces (00 Spans and sides). -/
def neighbourOf (n p : Nat) : Side → Nat
  | .east => (p + 1) % n
  | .west => (p + n - 1) % n

/-! ### The table (R60 to R62) -/

/-- The entry is learned when it holds content received or owned (R60). -/
def Entry.learned (e : Entry) : Bool :=
  e.source.isSome

/-- An unlearned entry counts as IDLE and PASS (R61). -/
def Entry.countedCondition (e : Entry) : Condition :=
  if e.learned then e.condition else .idle

def Entry.countedAction (e : Entry) : Action :=
  if e.learned then e.action else .pass

/-- The entry of a span end as the table holds it: the own entries stand at the own position while the part is JOINED
(R62). -/
def State.entry (s : State) (p : Nat) (x : Side) : Entry :=
  if s.joined && s.identity.position.any (·.val == p) then
    let o := s.signalling.own.get x
    ⟨o.condition, o.action, o.edition, some .own⟩
  else elementAt s.signalling.rct (2 * p + x.offset) Entry.unlearned

/-- The 64 span ends in the order of R60. -/
def spanEnds : List (Nat × Side) :=
  (List.range 32).flatMap fun p => [(p, .east), (p, .west)]

/-- Some learned entry of the table passes a test. -/
def State.anyLearned (s : State) (test : Entry → Bool) : Bool :=
  spanEnds.any fun e => (s.entry e.1 e.2).learned && test (s.entry e.1 e.2)

/-- Some learned entry has condition PARK (R93, R102). -/
def State.learnedPark (s : State) : Bool :=
  s.anyLearned fun e => e.condition == .park

/-- Some learned entry has condition FADE or higher (R93, R96). -/
def State.learnedTrouble (s : State) : Bool :=
  s.anyLearned fun e => decide (Condition.fade.code ≤ e.condition.code)

/-- The side of entry number i of the order of R60. -/
def sideOfIndex (i : Nat) : Side :=
  if i % 2 = 0 then .east else .west

/-! ### The outgoing vector (R65, R66) -/

/-- Entry i of the outgoing vector: known while the part is JOINED, the entry learned and its position below N; else
sent as IDLE, PASS, edition 0 with the known bit clear (R65, R66). -/
def vectorEntry (s : State) (i : Nat) : Half :=
  let e := s.entry (i / 2) (sideOfIndex i)
  if s.joined && e.learned && decide (i / 2 < s.ringMap.n) then entryWord true e.condition e.action e.edition
  else entryWord false .idle .pass 0

/-- The vector built from the table as it stands (R65, R66). -/
def buildVector (s : State) : SigVector :=
  SigVector.sealed
    { state := if s.joined then joinedCode else standaloneCode, sender := s.identity.nodeId.setWidth 8,
      ringId := s.ringMap.ringId, digest := s.ringMap.digest,
      entries := Vector.ofFn fun i : Fin 64 => vectorEntry s i.val, check := 0#16 }

/-! ### Acceptance (R68 to R74) -/

/-- The outcome of the acceptance tests (R22). -/
inductive VectorOutcome
  | failed
  | foreign
  | passed
  deriving DecidableEq, Repr

/-- The vector check (R68). -/
def vectorGood (v : SigVector) : Bool :=
  v.check == checkOf v.bytes && (v.state == standaloneCode || v.state == joinedCode)

/-- The node ID expected across the span of a side (R53). -/
def State.expectedNeighbour (s : State) (x : Side) : Option (Fin 63) :=
  s.identity.position.bind fun p => s.ringMap.idAt (neighbourOf s.ringMap.n p.val x)

/-- The three tests in their order; the ring ID and neighbour tests are made only while JOINED (R68 to R71). -/
def vectorOutcome (s : State) (x : Side) (v : SigVector) : VectorOutcome :=
  if !vectorGood v then .failed
  else if s.joined && (v.ringId != s.ringMap.ringId || !(s.expectedNeighbour x).any (·.val == v.sender.toNat)) then
    .foreign
  else .passed

/-- A PASSED vector sets NEIGHBOUR-STANDALONE and MAP-MISMATCH of its side; a FAILED or FOREIGN one advances the
side's vectors-discarded counter (R68, R69, R72, R73). -/
def noteVector (s : State) (x : Side) (v : SigVector) : State :=
  match vectorOutcome s x v with
  | .passed =>
    s.setSignalling
      { s.signalling with
        neighbourStandalone := s.signalling.neighbourStandalone.set x (v.state == standaloneCode)
        mapMismatch := s.signalling.mapMismatch.set x (v.state == joinedCode && v.digest != s.ringMap.digest) }
  | _ => s.bump (.vectorsDiscarded x) 1

/-- A PASSED vector is merged when its sender is JOINED, its digest equals this part's, and this part is JOINED (R74). -/
def mergeable (s : State) (x : Side) (v : SigVector) : Bool :=
  vectorOutcome s x v == .passed && v.state == joinedCode && v.digest == s.ringMap.digest && s.joined

/-! ### Editions and the merge (R75 to R79) -/

/-- The received edition is newer than the held one: the difference modulo 16 is 1 to 8 (R75). -/
def newer (held received : Fin 16) : Bool :=
  decide (1 ≤ (received - held).val) && decide ((received - held).val ≤ 8)

/-- The content of an entry of a merged vector that is not passed over (R76). -/
structure Received where
  condition : Condition
  action : Action
  edition : Fin 16
  deriving DecidableEq, Repr

/-- Entry i of a vector, unless the merge passes over it: its known bit is 0, its position is N or above, or a code is
invalid (R76). -/
def receivedEntry (n : Nat) (v : SigVector) (i : Nat) : Option Received :=
  let h := elementAt v.entries i 0#16
  if entryKnown h && decide (i / 2 < n) then
    match entryCondition h, entryAction h with
    | some c, some a => some ⟨c, a, entryEdition h⟩
    | _, _ => none
  else none

/-- Entry i is an ignored entry: known, below N, with condition code 7 or action code 3. DEDUCED (log 27): an entry that is unknown, or
at N or above, adds nothing even where its codes are invalid, as R76 says of its first two cases. -/
def ignoredEntry (n : Nat) (v : SigVector) (i : Nat) : Bool :=
  let h := elementAt v.entries i 0#16
  entryKnown h && decide (i / 2 < n) && ((entryCondition h).isNone || (entryAction h).isNone)

/-- A remote entry: an unlearned entry adopts any edition, a learned one a newer edition; else it stands (R77). -/
def adopt (x : Side) (held : Entry) (r : Received) : Entry :=
  if !held.learned || newer held.edition r.edition then ⟨r.condition, r.action, r.edition, some (.line x)⟩ else held

/-- Own-entry catch-up: the own edition goes to one beyond a copy that is newer, or equal with different content. The copy
is compared with the content at the start of the event, since a catch-up is applied before a change of own content that
falls in the same event (R78; log 7). -/
def catchUp (start : Condition × Action) (o : OwnEntry) (r : Received) : OwnEntry :=
  if newer o.edition r.edition || (r.edition == o.edition && start != (r.condition, r.action)) then
    { o with edition := r.edition + 1 }
  else o

/-- What a table-change notice looks at: whether an entry is learned, its condition and its action (R79). -/
def Entry.shown (e : Entry) : Bool × Condition × Action :=
  (e.learned, e.condition, e.action)

/-- Every entry of a vector from side x compared with the table of the node at position p, whose own entries stood as
`start` at the start of the event (R76 to R78). -/
def mergeEntries (start : Sides OwnEntry) (s : State) (x : Side) (v : SigVector) (p : Nat) : State :=
  let n := s.ringMap.n
  let rct := Vector.ofFn fun i : Fin 64 =>
    match receivedEntry n v i.val with
    | some r => if i.val / 2 = p then s.signalling.rct[i] else adopt x s.signalling.rct[i] r
    | none => s.signalling.rct[i]
  let ownOf := fun y : Side =>
    match receivedEntry n v (2 * p + y.offset) with
    | some r => catchUp (start.get y).content (s.signalling.own.get y) r
    | none => s.signalling.own.get y
  (s.setSignalling { s.signalling with rct := rct, own := ⟨ownOf .east, ownOf .west⟩ }).bump (.entriesIgnored x)
    ((List.range 64).countP (ignoredEntry n v))

/-- Some entry's learned field, condition or action differs: a table-change notice is due (R79). -/
def tableChanged (before after : State) : Bool :=
  before.signalling.rct.toList.map Entry.shown != after.signalling.rct.toList.map Entry.shown

end Sys2Proof.Machine
end

