-- ==== Sys2Proof/Machine/Restoration.lean ====
section
/-! DEFINITION. The Restoration Resolver (R100 to R107), the Loop Engines (R109 to R122), the MANUAL drop (R96), the
chain of a table-change notice (R63, R79, R100, R110), and the announced condition (R98). -/

namespace Sys2Proof.Machine

/-! ### The restored set (R101, R102) -/

/-- cond(s): the higher of the conditions of the span's two ends (R101). -/
def State.spanCondition (s : State) (k : Nat) : Condition :=
  ((s.entry k .east).countedCondition).higher ((s.entry ((k + 1) % s.ringMap.n) .west).countedCondition)

/-- The spans below n that pass a test, span k in bit k. -/
def spanSet (n : Nat) (test : Nat → Bool) : Bits :=
  BitVec.ofFnLE fun k : Fin 32 => decide (k.val < n) && test k.val

/-- The one span with the lowest number that passes a test, as a set; empty when there is none. -/
def lowestSpan (n : Nat) (test : Nat → Bool) : Bits :=
  match (List.range n).find? test with
  | some k => spanSet n (· == k)
  | none => 0#32

/-- Class A: CUT and FORCE (00 Conditions). -/
def Condition.classA (c : Condition) : Bool :=
  c == .cut || c == .force

/-- R, chosen by the first of the steps of R102 whose test holds. -/
def State.chooseRestored (s : State) : Bits :=
  let n := s.ringMap.n
  let anySpan := fun test : Condition → Bool => (List.range n).any fun k => test (s.spanCondition k)
  if s.learnedPark then 0#32
  else if anySpan Condition.classA then spanSet n fun k => (s.spanCondition k).classA
  else if anySpan (· == .fade) then spanSet n fun k => s.spanCondition k == .fade
  else if anySpan (· == .manual) then lowestSpan n fun k => s.spanCondition k == .manual
  else lowestSpan n fun k => s.spanCondition k == .hold

/-! ### Segments, ring-quiet, role and targets (R104 to R106) -/

/-- Going west from q until the span to the west is in R. -/
def segmentFirst (n : Nat) (restored : Bits) : Nat → Nat → Nat
  | 0, q => q
  | fuel + 1, q =>
    if restored.getLsbD (spanFaced n q .west) then q
    else segmentFirst n restored fuel (neighbourOf n q .west)

/-- Going east from q until the span to the east is in R. -/
def segmentLast (n : Nat) (restored : Bits) : Nat → Nat → Nat
  | 0, q => q
  | fuel + 1, q =>
    if restored.getLsbD (spanFaced n q .east) then q
    else segmentLast n restored fuel (neighbourOf n q .east)

/-- The own segment of the node at position p: 0 to N − 1 where R is empty (R104). -/
def ownSegment (n : Nat) (restored : Bits) (p : Nat) : Nat × Nat :=
  if restored = 0#32 then (0, n - 1) else (segmentFirst n restored n p, segmentLast n restored n p)

/-- Every learned entry announces PASS (R104). -/
def State.quiet (s : State) : Bool :=
  !s.anyLearned fun e => e.action != .pass

/-- The role of a JOINED node at position p (R105). -/
def roleOf (n : Nat) (restored : Bits) (quiet : Bool) (p : Nat) : Role :=
  let e := restored.getLsbD (spanFaced n p .east)
  let w := restored.getLsbD (spanFaced n p .west)
  if e && w then .isolated
  else if e then .loopEast
  else if w then .loopWest
  else if restored != 0#32 then .transit
  else if quiet then .normal
  else .drain

/-- The Resolver's results from the table as it stands; the STANDALONE state while the part is not JOINED (R100). -/
def State.resolved (s : State) : Resolver :=
  match s.joined, s.identity.position with
  | true, some p =>
    let n := s.ringMap.n
    let r := s.chooseRestored
    { restored := r, segment := some (ownSegment n r p.val), ringQuiet := s.quiet,
      role := roleOf n r s.quiet p.val,
      target := ⟨r.getLsbD (spanFaced n p.val .east), r.getLsbD (spanFaced n p.val .west)⟩ }
  | _, _ =>
    { restored := 0#32, segment := none, ringQuiet := s.quiet, role := .detached, target := ⟨false, false⟩ }

/-- A recomputation (R100). -/
def recompute (s : State) : State :=
  s.setResolver s.resolved

/-! ### Loop Engines (R109 to R122) -/

/-- The partner is bridging when its action is BRIDGED or LOOPED (R111). -/
def Action.bridging (a : Action) : Bool :=
  a != .pass

/-- The partner is not selecting when its action is PASS or BRIDGED (R111). -/
def Action.notSelecting (a : Action) : Bool :=
  a != .looped

/-- The action of the partner entry as the table holds it (R111). -/
def State.partnerAction (s : State) (x : Side) : Action :=
  match s.identity.position with
  | some p => (s.entry (neighbourOf s.ringMap.n p.val x) x.other).countedAction
  | none => .pass

/-- What an engine does on a change of its loop target, `timer` being the confirm timer freshly started (R112, R115,
R116, R120). -/
def Engine.retarget (e : Engine) (timer : Timer) (old new : Bool) : Engine :=
  if old = new then e
  else
    match new, e.phase with
    | true, .idle => { e with phase := .bridged, confirm := timer }
    | true, .unlooping => { e with phase := .bridged, confirm := timer }
    | false, .bridged => { phase := .idle, confirm := none, silent := false }
    | false, .looped => { e with phase := .unlooping, confirm := timer }
    | _, _ => e

/-- The partner test in the state the engine is in (R113, R117, R118). DEDUCED (log 25): an answer in BRIDGED clears
PARTNER-SILENT, as R113 and R122 say, where the first row of R126 says "as it stood"; the two differ only after a re-entry by
R120 with the flag present. -/
def Engine.partnerTest (e : Engine) (partner : Action) : Engine :=
  match e.phase with
  | .idle => e
  | .bridged => if partner.bridging then { phase := .looped, confirm := none, silent := false } else e
  | .looped => if partner.bridging then { e with silent := false } else e
  | .unlooping => if partner.notSelecting then { phase := .idle, confirm := none, silent := false } else e

/-- A confirm timer expiry (R114, R119). -/
def Engine.expire (e : Engine) : Engine :=
  match e.phase with
  | .bridged => { phase := .looped, confirm := none, silent := true }
  | .unlooping => { phase := .idle, confirm := none, silent := false }
  | _ => e

/-- The own entry takes the action of its side's engine (R62). -/
def writeAction (s : State) (x : Side) : State :=
  s.updateOwn x fun o => { o with action := (s.engine.get x).phase.action }

/-- One engine on a table-change notice: the target change if there is one, then the partner test (R110). -/
def engineNotice (x : Side) (old : Bool) (s : State) : State :=
  let timer := startUnits s.profile.confirmTimeout
  writeAction
    (s.updateEngine x fun e => (e.retarget timer old (s.resolver.target.get x)).partnerTest (s.partnerAction x)) x

/-! ### The announced condition and the chain of a notice -/

/-- The highest of the detected condition, the side command and PARK (R98). -/
def ConditionSide.highest (c : ConditionSide) (park : Bool) : Condition :=
  (c.detected.condition.higher c.command.condition).higher (if park then .park else .idle)

/-- The announced conditions formed afresh and written into the own entries (R63, R98). -/
def formAnnounced (s : State) : State :=
  let form := fun c : ConditionSide => { c with announced := c.highest s.park }
  let c : Sides ConditionSide := ⟨form s.condition.east, form s.condition.west⟩
  let o := s.signalling.own
  (s.setCondition c).setSignalling
    { s.signalling with
      own := ⟨{ o.east with condition := c.east.announced }, { o.west with condition := c.west.announced }⟩ }

/-- A side command MANUAL becomes NONE (R96). -/
def ConditionSide.dropManual (c : ConditionSide) : ConditionSide :=
  if c.command = .manual then { c with command := .none } else c

/-- The drop of MANUAL commands when a learned entry is FADE or higher (R96). -/
def dropManual (s : State) : State :=
  if s.learnedTrouble && (s.condition.east.command == .manual || s.condition.west.command == .manual) then
    formAnnounced
      ((s.setCondition ⟨s.condition.east.dropManual, s.condition.west.dropManual⟩).raise .commandDropped)
  else s

/-- One table-change notice: the Condition Unit's drop test, the recomputation, then both engines (R96, R100, R110). -/
def noticePass (s : State) : State :=
  let s1 := dropManual s
  let s2 := recompute s1
  engineNotice .west s1.resolver.target.west (engineNotice .east s1.resolver.target.east s2)

/-- The contents of the two own entries (R63). -/
def State.ownContent (s : State) : (Condition × Action) × (Condition × Action) :=
  (s.signalling.own.east.content, s.signalling.own.west.content)

/-- A table-change notice with the further notice that a change of own content hands. The chain ends there: a change of
action moves the ring-quiet flag and the role but never R, and the second partner test finds what the first found (R63,
R100, R110; log 17). -/
def tableNotice (s : State) : State :=
  let s1 := noticePass s
  if s1.ownContent = s.ownContent then s1 else noticePass s1

/-- A change of an input of the announced conditions: they are formed afresh, and a change of own content hands a
table-change notice while the part is JOINED (R63, R64, R98). -/
def announce (s : State) : State :=
  let s1 := formAnnounced s
  if s1.joined && decide (s1.ownContent ≠ s.ownContent) then tableNotice s1 else s1

/-- The merge of one vector, with the notice it hands; `start` holds the own entries of the start of the event (R78, R79). -/
def mergeVector (start : Sides OwnEntry) (s : State) (x : Side) (v : SigVector) : State :=
  match s.identity.position with
  | some p =>
    let s1 := mergeEntries start s x v p.val
    if tableChanged s s1 then tableNotice s1 else s1
  | none => s

end Sys2Proof.Machine
end

