-- ==== Sys2Proof/Machine/Monitor.lean ====
section
/-! DEFINITION. The Span Monitor (R20 to R45) and the Condition Unit's handling of its reports (R86 to R90). -/

namespace Sys2Proof.Machine

/-! ### Reports to the Condition Unit (R27, R86 to R90) -/

/-- The reports of a Span Monitor (R27). -/
inductive Report
  | defectClear
  | standingDefect
  | qualityChange (q : Quality)
  deriving DecidableEq, Repr

/-- The side enters HOLD and its WTR timer starts (R88, R89, R90). -/
def ConditionSide.enterHold (c : ConditionSide) (timer : Timer) : ConditionSide :=
  { c with detected := .hold, wtr := timer }

/-- The side becomes `d`, and a running WTR timer is cancelled (R87, R89, R95). -/
def ConditionSide.become (c : ConditionSide) (d : Detected) : ConditionSide :=
  { c with detected := d, wtr := none }

/-- What a report does to the detected condition, by the side's current quality and a WTR timer freshly started
(R87, R88, R89). At a defect clear the quality is never EXCESSIVE (R88; log 21). -/
def ConditionSide.report (c : ConditionSide) (quality : Quality) (timer : Timer) : Report → ConditionSide
  | .standingDefect => if c.detected = .cut then c else c.become .cut
  | .defectClear =>
    if c.detected = .cut then
      match quality with
      | .fading => c.become .fade
      | .good => c.enterHold timer
      | .excessive => c
    else c
  | .qualityChange .fading => if c.detected = .idle ∨ c.detected = .hold then c.become .fade else c
  | .qualityChange .good => if c.detected = .fade then c.enterHold timer else c
  | .qualityChange .excessive => c

/-- The Condition Unit takes one report of a side (R86, R98). -/
def takeReport (x : Side) (s : State) (r : Report) : State :=
  announce (s.updateCondition x fun c => c.report (s.monitor.get x).quality (startSeconds s.profile.wtrTime) r)

/-! ### Quality (R37 to R39) -/

/-- Quality takes a value, and the EXCESSIVE defect with it (R25, R38). -/
def Monitor.withQuality (m : Monitor) (q : Quality) : Monitor :=
  { m with quality := q, defects := { m.defects with excessive := q == .excessive } }

/-- An evaluation of quality by the thresholds of the side (R37). -/
def Monitor.evaluate (m : Monitor) (p : Profile) (x : Side) : Monitor :=
  m.withQuality (evaluateQuality (p.tOn.get x) (p.tOff.get x) (p.tFail.get x) m.quality m.density)

/-- The report of a quality change, if there was one (R27, R38). -/
def qualityReports (before after : Quality) : List Report :=
  if before = after then [] else [.qualityChange after]

/-! ### The defect flag and the hold-off (R25 to R28) -/

/-- Some defect is present (R25). -/
def Defects.present (d : Defects) : Bool :=
  d.los || d.lof || d.mute || d.miswired || d.excessive

/-- The hold-off when its flag rises, or is taken to rise at JOIN: a hold-off time of 0 expires at once (R2, R26, R28). -/
def Monitor.startHoldOff (m : Monitor) (time : Nat) : Monitor × List Report :=
  if time = 0 then ({ m with holdOff := .standing, holdOffTimer := none }, [.standingDefect])
  else ({ m with holdOff := .holding, holdOffTimer := startUnits time }, [])

/-- The hold-off returns to ABSENT and a running timer is cancelled (R26, R28). -/
def Monitor.endHoldOff (m : Monitor) : Monitor :=
  { m with holdOff := .absent, holdOffTimer := none }

/-- The flag re-formed at the end of a Span Monitor event, and the reports of its rise or fall (R25, R26, R27). -/
def Monitor.formFlag (m : Monitor) (joined : Bool) (time : Nat) : Monitor × List Report :=
  let m1 := { m with flag := m.defects.present }
  match m.flag, m.defects.present with
  | false, true => if joined then m1.startHoldOff time else (m1, [])
  | true, false => (m1.endHoldOff, [.defectClear])
  | _, _ => (m1, [])

/-- The end of a Span Monitor event: the flag is formed, and the defect clear, the standing defect and the quality
changes are handed to the Condition Unit in that order (R25, R27). -/
def closeMonitor (x : Side) (changes : List Report) (s : State) : State :=
  let r := (s.monitor.get x).formFlag s.joined s.profile.holdOffTime
  (r.2 ++ changes).foldl (takeReport x) (s.setMonitor (s.monitor.set x r.1))

/-! ### The boundary events of the receiver (R20, R21, R39) -/

/-- Entry to ALIGNED at the Span Monitor: d and quality restart, the settle mask starts, LOF is absent (R39). A settle
mask time of 0 expires within the event and evaluates at once (R39, R41; log 8). -/
def monitorEntersAligned (x : Side) (s : State) : State :=
  let m := s.monitor.get x
  let m1 := { m.withQuality .good with density := 0, settle := startUnits s.profile.settleTime }
  let m2 := if s.profile.settleTime = 0 then { m1.evaluate s.profile x with settle := none } else m1
  closeMonitor x (qualityReports m.quality .good ++ qualityReports .good m2.quality)
    (s.setMonitor (s.monitor.set x { m2 with defects := { m2.defects with lof := false } }))

/-- Departure from ALIGNED at the Span Monitor: LOF is present and the settle mask is cancelled (R21, R41). -/
def Monitor.depart (m : Monitor) : Monitor :=
  { m with defects := { m.defects with lof := true }, settle := none }

/-- The receiver leaves ALIGNED: the bad-word count is 0, the held parity is discarded, the buffer is flushed at once and
the alignment-loss counter advances (R9, R10, R14, R21). The event's end is left to the caller. -/
def depart (x : Side) (s : State) : State :=
  (((s.updateReceiver x fun _ => ⟨.search, 0, none⟩).updateBuffer x fun _ => ⟨.flushed, [], none⟩).updateMonitor x
    Monitor.depart).bump (.alignmentLosses x) 1

/-! ### Frame arrival (R22 to R24, R29, R30) -/

/-- The MUTE count and defect, and the MISWIRED defect, by the outcome of the acceptance tests (R23, R24). -/
def Monitor.takeOutcome (m : Monitor) : VectorOutcome → Monitor
  | .failed =>
    let k := min (m.muteCount + 1) Config.muteLimit
    { m with muteCount := k, defects := { m.defects with mute := m.defects.mute || k == Config.muteLimit } }
  | .foreign => { m with muteCount := 0, defects := { m.defects with mute := false, miswired := true } }
  | .passed => { m with muteCount := 0, defects := { m.defects with mute := false, miswired := false } }

/-- The estimator and, unless w is 0 or the settle mask runs, the evaluation that follows its update (R30, R36). -/
def Monitor.takeParity (m : Monitor) (p : Profile) (x : Side) (v : Nat) : Monitor :=
  let w := (p.weight.get x).toNat
  let m1 := { m with density := estimate m.density v w }
  if w = 0 ∨ m.settle.isSome then m1 else m1.evaluate p x

/-- The violation and errored-frame counters of a parity result (R29). -/
def countParity (s : State) (x : Side) (v : Nat) : State :=
  (s.bump (.violations x) v).bump (.erroredFrames x) (if 1 ≤ v then 1 else 0)

/-- The Span Monitor's event for one aligned frame, with the parity result of a frame that has a checked predecessor
(R22). -/
def monitorArrival (x : Side) (outcome : VectorOutcome) (parity : Option Nat) (s : State) : State :=
  let m := s.monitor.get x
  let m1 := m.takeOutcome outcome
  match parity with
  | some v =>
    let m2 := m1.takeParity s.profile x v
    closeMonitor x (qualityReports m.quality m2.quality) ((countParity s x v).setMonitor (s.monitor.set x m2))
  | none => closeMonitor x [] (s.setMonitor (s.monitor.set x m1))

/-! ### JOIN and LEAVE at the Span Monitor (R28) -/

/-- At JOIN a side whose defect flag is present is treated as if its flag had risen (R28). -/
def joinHoldOff (x : Side) (s : State) : State :=
  let m := s.monitor.get x
  if m.flag then
    let r := m.startHoldOff s.profile.holdOffTime
    r.2.foldl (takeReport x) (s.setMonitor (s.monitor.set x r.1))
  else s

end Sys2Proof.Machine
end

