-- ==== Sys2Proof/Machine/Router.lean ====
section
/-! DEFINITION. The Cell Router (R150 to R155). -/

namespace Sys2Proof.Machine

/-- A transit drop: the counter advances and TRANSIT-DROP is raised (R153). -/
def transitDrop (s : State) : State :=
  (s.bump .transitDrops 1).raise .transitDrop

/-- A cell joins a transmit queue, or is a transit drop where the queue has no free place (R151, R152, R155). -/
def queueCell (q : Port) (c : Cell) (s : State) : State :=
  if (s.transmit.get q).hasPlace then s.updateTransmit q (·.push c) else transitDrop s

/-- A REQUEST joins a request queue; a queue that holds 4 makes it a request overflow (R153, R154). -/
def queueRequest (q : Port) (c : Cell) (s : State) : State :=
  if (s.requests.get q).length < Config.requestCapacity then s.setRequests (s.requests.update q (· ++ [c]))
  else (s.bump .requestOverflows 1).raise .requestOverflow

/-- A node ID byte names this node (R47, R151, R152). -/
def namesThisNode (s : State) (b : Byte) : Bool :=
  b == s.identity.nodeId.setWidth 8

/-- A node ID byte is the local alias 63 (00 Node identity). -/
def namesAlias (b : Byte) : Bool :=
  b.toNat == Config.aliasId

/-- A cell that arrives from a line side, by the first step of R151 that applies. A hop limit lowered from 1, or arriving
as 0, leaves 0 (log 9). -/
def routeLineCell (x : Side) (c : Cell) (s : State) : State :=
  if !c.headerGood then s.bump (.cellsDiscarded x) 1
  else if namesThisNode s c.source then s
  else if namesAlias c.destination then s
  else if namesThisNode s c.destination then
    if c.kind == kindRequest then queueRequest x.port c s else queueCell .tributary c s
  else if c.hopLimit ≤ 1 then transitDrop s
  else queueCell x.other.port { c with hop := BitVec.ofNat 8 (c.hopLimit - 1) } s

/-- A cell that arrives from the tributary port, by the first step of R152 that applies. -/
def routeTributaryCell (c : Cell) (s : State) : State :=
  if !c.headerGood then s.bump .tributaryCellsDiscarded 1
  else if namesThisNode s c.destination || namesAlias c.destination then
    if c.kind == kindRequest then queueRequest .tributary c s else s
  else
    match Port.ofRoute c.route.toNat with
    | some .east => if c.hopLimit = 0 then s else queueCell .east c s
    | some .west => if c.hopLimit = 0 then s else queueCell .west c s
    | _ => s

/-- The cell of a management field whose presence flag is set (R3, R4, R11). -/
def routeManagement (route : Cell → State → State) (m : Management) (s : State) : State :=
  if m.present then route m.cell s else s

end Sys2Proof.Machine
end

