-- ==== Sys2Proof/Machine/SlotSwitch.lean ====
section
/-! DEFINITION. The alignment buffers (R14 to R17), the squelch test (R144 to R146), the source of every outgoing slot
(R139 to R143), and the transmitters (R5, R6). -/

namespace Sys2Proof.Machine

/-! ### The alignment buffer (R14 to R17) -/

/-- A side's slip: the slip counter advances and SLIP is raised (R16, R17). -/
def slip (x : Side) (s : State) : State :=
  (s.bump (.slips x) 1).raise (.slip x)

/-- The buffer with an arriving frame stored as the newest; at 4 held the oldest is discarded first (R15, R17). -/
def Buffer.store (b : Buffer) (f : LineSlots) : Buffer :=
  { b with frames := (if b.frames.length < Config.bufferCapacity then b.frames else b.frames.tail) ++ [f] }

/-- The arrival of an aligned frame at its buffer: a full RUNNING buffer makes a delete slip, a full CENTERING one does
not, and a FLUSHED one takes nothing (R14, R15, R17). -/
def bufferArrival (x : Side) (f : LineSlots) (s : State) : State :=
  let b := s.buffer.get x
  match b.mode with
  | .flushed => s
  | .centering => s.setBuffer (s.buffer.set x (b.store f))
  | .running =>
    let s1 := s.setBuffer (s.buffer.set x (b.store f))
    if b.frames.length < Config.bufferCapacity then s1 else slip x s1

/-- What a read gives, the buffer after it, and whether it is a repeat slip (R14, R15, R16). -/
def Buffer.read (b : Buffer) : LineSlots × Buffer × Bool :=
  match b.mode, b.frames with
  | .flushed, _ => (LineSlots.void, b, false)
  | .centering, f :: g :: rest => (f, ⟨.running, g :: rest, some f⟩, false)
  | .centering, _ => (LineSlots.void, b, false)
  | .running, f :: rest => (f, ⟨.running, rest, some f⟩, false)
  | .running, [] => (b.last.getD LineSlots.void, b, true)

/-- The read of a side's buffer at a local frame start (R19). -/
def readBuffer (x : Side) (s : State) : State :=
  let r := (s.buffer.get x).read
  let s1 := s.setBuffer (s.buffer.set x r.2.1)
  if r.2.2 then slip x s1 else s1

/-! ### The squelch test (R144 to R146) -/

/-- An engine that is not IDLE bridges, and its side is tested (R109, R123, R144). -/
def Phase.active (p : Phase) : Bool :=
  p != .idle

/-- A node ID lies in the own segment (R145). -/
def State.inOwnSegment (s : State) (id : Nat) : Bool :=
  match s.resolver.segment, s.ringMap.positionOf id with
  | some (a, b), some q =>
    let n := s.ringMap.n
    decide ((q + n - a) % n ≤ (b + n - a) % n)
  | _, _ => false

/-- The index of slot k of a side in a bank of records (R132). -/
def recordIndex (x : Side) (k : Nat) : Nat :=
  match x with
  | .east => k
  | .west => 32 + k

/-- The active Circuit Table record of slot k on a side (R131). -/
def State.circuitOf (s : State) (x : Side) (k : Nat) : Option Circuit :=
  elementAt s.tables.circuit.active (recordIndex x k) none

/-- Slot k is squelched for a side (R144). -/
def State.squelched (s : State) (x : Side) (k : Nat) : Bool :=
  match s.circuitOf x k with
  | some c => !c.restore || !s.inOwnSegment c.origin.val || !s.inOwnSegment c.terminus.val
  | none => true

/-- The squelch results of a side: none while its engine is IDLE (R144). -/
def State.squelchTest (s : State) (x : Side) : Bits :=
  if (s.engine.get x).phase.active then BitVec.ofFnLE fun k : Fin 32 => s.squelched x k.val else 0#32

/-- A present record has an endpoint that is not in the Ring Map (R146). -/
def State.unmapped (s : State) (x : Side) (k : Nat) : Bool :=
  match s.circuitOf x k with
  | some c =>
    (s.ringMap.positionOf c.origin.val).isNone || (s.ringMap.positionOf c.terminus.val).isNone
  | none => false

/-- A tested slot of a side has an unmapped record (R146). -/
def State.faultySide (s : State) (x : Side) : Bool :=
  (s.engine.get x).phase.active && (List.range 32).any (s.unmapped x)

/-- The squelch results of a local frame start with SQUELCHING and TABLE-FAULT (R144, R146). -/
def State.squelchTests (s : State) : Squelch :=
  let e := s.squelchTest .east
  let w := s.squelchTest .west
  { results := ⟨e, w⟩, squelching := e != 0#32 || w != 0#32,
    tableFault := s.faultySide .east || s.faultySide .west }

/-! ### The source of every outgoing slot (R139 to R143) -/

/-- The three frames read at a local frame start (R19). -/
structure Inputs where
  east : LineSlots
  west : LineSlots
  tributary : Vector Slot 64
  deriving DecidableEq, Repr

/-- The received frame of a side. -/
def Inputs.line (i : Inputs) : Side → LineSlots
  | .east => i.east
  | .west => i.west

/-- Received working or protection slot k of a side, and inbound tributary slot t, as they are sent on (R3). -/
def Inputs.working (i : Inputs) (x : Side) (k : Nat) : Slot :=
  (elementAt (i.line x).working k Slot.fill).forwarded

def Inputs.protection (i : Inputs) (x : Side) (k : Nat) : Slot :=
  (elementAt (i.line x).protection k Slot.fill).forwarded

def Inputs.added (i : Inputs) (t : Fin 64) : Slot :=
  i.tributary[t].forwarded

/-- The side's squelch result for slot k. -/
def Squelch.at (q : Squelch) (x : Side) (k : Nat) : Bool :=
  (q.results.get x).getLsbD k

/-- Side x's received working slot k as taken: a LOOPED engine selects the protection slot of the other side, or VOID
where the slot is squelched (R124, R140). -/
def takenWorking (s : State) (i : Inputs) (x : Side) (k : Nat) : Slot :=
  if (s.engine.get x).phase = .looped then
    if s.squelch.at x k then Slot.fill else i.protection x.other k
  else i.working x k

/-- The active Slot Map and Extra Map records that govern a side's outgoing slot k: eastbound records for East-out
(R129, R130). -/
def State.slotRecord (s : State) (x : Side) (k : Nat) : SlotRecord :=
  elementAt s.tables.slot.active (recordIndex x k) SlotRecord.unused

def State.extraRecord (s : State) (x : Side) (k : Nat) : SlotRecord :=
  elementAt s.tables.extra.active (recordIndex x k) SlotRecord.unused

/-- A record's outgoing slot, THROUGH taking `through` (R129, R130). -/
def SlotRecord.output (r : SlotRecord) (i : Inputs) (through : Slot) : Slot :=
  match r.source with
  | .void => Slot.fill
  | .through => through
  | .add t => i.added t

/-- Outgoing working slot k of side x (R140). -/
def workingOut (s : State) (i : Inputs) (x : Side) (k : Nat) : Slot :=
  (s.slotRecord x k).output i (takenWorking s i x.other k)

/-- Outgoing protection slot k of side x, by the first test of R142 that holds: the other side's bridge, VOID where the
own engine is not IDLE, the Extra Map while NORMAL, else the slot passed through (R142, R143). -/
def protectionOut (s : State) (i : Inputs) (x : Side) (k : Nat) : Slot :=
  if (s.engine.get x.other).phase.active then
    if s.squelch.at x.other k then Slot.fill else workingOut s i x.other k
  else if (s.engine.get x).phase.active then Slot.fill
  else if s.resolver.role = .normal then (s.extraRecord x k).output i (i.protection x.other k)
  else i.protection x.other k

/-- The slots of side x's outgoing frame (R139). -/
def lineOut (s : State) (i : Inputs) (x : Side) : LineSlots :=
  ⟨Vector.ofFn fun k : Fin 32 => workingOut s i x k.val, Vector.ofFn fun k : Fin 32 => protectionOut s i x k.val⟩

/-- The first record of a direction, in slot order, that names tributary t as its drop. -/
def dropSlot (record : Nat → SlotRecord) (t : Fin 64) : Option Nat :=
  (List.range 32).find? fun k => (record k).drop = some t

/-- Tributary-out slot t, from the one active record that names it (R141). Slot Map records are looked at first, so
that the order would decide between two records if there could be two (log 20). -/
def tributarySlotOut (s : State) (i : Inputs) (t : Fin 64) : Slot :=
  match dropSlot (s.slotRecord .east) t, dropSlot (s.slotRecord .west) t, dropSlot (s.extraRecord .east) t,
    dropSlot (s.extraRecord .west) t with
  | some k, _, _, _ => takenWorking s i .west k
  | none, some k, _, _ => takenWorking s i .east k
  | none, none, some k, _ => if s.resolver.role = .normal then i.protection .west k else Slot.fill
  | none, none, none, some k => if s.resolver.role = .normal then i.protection .east k else Slot.fill
  | none, none, none, none => Slot.fill

/-- The slots of the outbound tributary frame (R139). -/
def tributaryOut (s : State) (i : Inputs) : Vector Slot 64 :=
  Vector.ofFn (tributarySlotOut s i)

/-! ### The transmitters (R5, R6) -/

/-- The management field a port sends: its oldest cell, or none (R5). -/
def managementOut (s : State) (q : Port) : Management :=
  match (s.transmit.get q).cells with
  | c :: _ => .carrying c
  | [] => .absent

/-- A line frame as its transmitter begins it, with the parity held for the last frame sent (R5). -/
def lineFrameOut (s : State) (x : Side) (v : SigVector) (m : Management) (slots : LineSlots) : LineFrame :=
  { alignment := Config.alignmentWord, parity := s.sentParity.get x, vector := v, management := m, slots := slots }

/-- A port's oldest cell leaves its queue; a removal while the notice-pending flag is set prompts a send attempt (R5,
R155, R171). -/
def removeCell (q : Port) (s : State) : State :=
  match (s.transmit.get q).cells with
  | [] => s
  | _ :: _ =>
    let s1 := s.updateTransmit q TransmitQueue.pop
    if s.events.pending then s1.setEvents { s1.events with attempts := s1.events.attempts + 1 } else s1

/-- The three frames begin: each held parity becomes that of the frame now being sent, which is the last one by the next
local frame start (R5, log 12). -/
def beginFrames (f : SentFrames) (s : State) : State :=
  (s.setSent (some f)).setSentParity ⟨laneParity f.east.slots, laneParity f.west.slots⟩

/-- The reset frames of R6. -/
def resetFrames (s : State) : SentFrames :=
  { east := lineFrameOut s .east resetVector .absent LineSlots.void
    west := lineFrameOut s .west resetVector .absent LineSlots.void
    tributary := ⟨Config.alignmentWord, .absent, tributaryVoid⟩ }

/-- The frames of a local frame start, all built from one state (R5, R19, R65, R139). -/
def builtFrames (s : State) (i : Inputs) : SentFrames :=
  let v := buildVector s
  { east := lineFrameOut s .east v (managementOut s .east) (lineOut s i .east)
    west := lineFrameOut s .west v (managementOut s .west) (lineOut s i .west)
    tributary := ⟨Config.alignmentWord, managementOut s .tributary, tributaryOut s i⟩ }

/-- What the three reads of a local frame start give (R19). -/
def readInputs (s : State) : Inputs :=
  { east := s.buffer.east.read.1, west := s.buffer.west.read.1, tributary := s.holder.getD tributaryVoid }

/-! ### Timers at a local frame start (R2) -/

/-- The eight timers count a local frame start (R2). -/
def tickTimers (s : State) : State :=
  let m := fun m : Monitor => { m with holdOffTimer := countDown m.holdOffTimer, settle := countDown m.settle }
  let c := fun c : ConditionSide => { c with wtr := countDown c.wtr }
  let e := fun e : Engine => { e with confirm := countDown e.confirm }
  ((s.setMonitor ⟨m s.monitor.east, m s.monitor.west⟩).setCondition ⟨c s.condition.east, c s.condition.west⟩).setEngine
    ⟨e s.engine.east, e s.engine.west⟩

/-! ### The local frame start (R1, R5, R19) -/

/-- The Frame Timer issues a local frame start: the count advances, the running timers count, and the Table Store's turn at
it comes (R1, R2, R137; log 6). -/
def issueFrameStart (s : State) : State :=
  ((tickTimers s).setFrameCount (s.frameCount + 1#32)).setInstant ⟨true, true⟩

/-- The frames of a local frame start: the squelch results are formed; the three sources are read, the three frames are built
from one state and begun; the oldest cells leave (R5, R19, R65, R139, R144, R146). A Table Store with no commit pending has
then taken the local frame start (R137, R138; log 6). -/
def buildFrames (s : State) : State :=
  let s1 := s.setSquelch s.squelchTests
  let i := readInputs s1
  let s2 := ((readBuffer .west (readBuffer .east s1)).setHolder none).setInstant
    ⟨false, s.instant.swapTurn && s.tables.commit.isSome⟩
  removeCell .tributary (removeCell .west (removeCell .east (beginFrames (builtFrames s1 i) s2)))

end Sys2Proof.Machine
end

