-- ==== Sys2Proof/Machine/Tables.lean ====
section
/-! DEFINITION. The management tables: their words as read, the checks and the storing of a write, the words a
READ-CLEAR clears, and the poll records (R48 to R51, R85, R132 to R134, R160 to R162, R165, R169, R174, R179, 11). -/

namespace Sys2Proof.Machine

/-! ### Words as read (11 Management table words) -/

/-- A position, or 0xFF where it is absent (11). -/
def positionCode (p : Option (Fin 32)) : Nat :=
  match p with
  | some q => q.val
  | none => 0xFF

/-- Table 0 (R49). -/
def identityWord (s : State) : Nat → Word
  | 0 => placed 16 Config.partCode ||| placed 8 Config.revision ||| s.identity.strap.setWidth 32
  | 1 => s.identity.nodeId.setWidth 32
  | 2 => placedBit 16 s.joined ||| placed 8 s.resolver.role.code ||| placed 0 (positionCode s.identity.position)
  | 3 => s.resolver.restored
  | _ => 0#32

/-- A word with East in bits 31 to 16 and West in bits 15 to 0. -/
def pairWord (v : Sides Half) : Word :=
  v.east ++ v.west

/-- Table 1 (R162). -/
def profileWord (p : Profile) : Nat → Word
  | 0 => pairWord p.weight
  | 1 => pairWord p.tOn
  | 2 => pairWord p.tOff
  | 3 => pairWord p.tFail
  | 4 => placed 16 p.holdOffTime ||| placed 0 p.settleTime
  | 5 => placed 16 p.wtrTime ||| placed 0 p.confirmTimeout
  | 6 =>
    placed 24 p.responseHop ||| placed 16 p.pollSelector.val ||| placed 8 p.noticeDestination.toNat
      ||| placed 0 p.noticeRoute.routeCode
  | _ => 0#32

/-- An empty Ring Map position reads as 63 (R178). -/
def idCode (id : Option (Fin 63)) : Nat :=
  match id with
  | some i => i.val
  | none => 63

/-- Table 2 (R50). -/
def ringMapWord (m : RingMap) : Nat → Word
  | 0 => placed 16 m.n ||| m.ringId.setWidth 32
  | p + 1 => placed 0 (idCode (m.idAt p))

/-- A Slot Map or Extra Map word (R129, R133). -/
def slotWord (r : SlotRecord) : Word :=
  (match r.source with
    | .void => 0#32
    | .through => placed 30 1
    | .add t => placed 30 2 ||| placed 8 t.val)
  ||| (match r.drop with
    | some d => placedBit 29 true ||| placed 0 d.val
    | none => 0#32)

/-- A Circuit Table word (R131, R133). -/
def circuitWord : Option Circuit → Word
  | some c => placedBit 31 true ||| placedBit 30 c.restore ||| placed 8 c.origin.val ||| placed 0 c.terminus.val
  | none => 0#32

/-- The condition, action and edition fields of a table 9 word. -/
def contentWord (c : Condition) (a : Action) (e : Fin 16) : Word :=
  placed 8 c.code ||| placed 4 a.code ||| placed 0 e.val

/-- An own entry at index 64 or 65: condition, action and edition only (R85, log 11). -/
def ownWord (o : OwnEntry) : Word :=
  contentWord o.condition o.action o.edition

/-- Table 9 (R60, R85). -/
def rctWord (s : State) (i : Nat) : Word :=
  if i < 64 then
    let e := s.entry (i / 2) (sideOfIndex i)
    placedBit 31 e.learned ||| placed 28 (sourceCode e.source) ||| contentWord e.condition e.action e.edition
  else if i = 64 then ownWord s.signalling.own.east
  else if i = 65 then ownWord s.signalling.own.west
  else 0#32

/-- Word 1 of a side's state, which is also word 0 of its side summary (11). -/
def statusWord (s : State) (x : Side) : Word :=
  let m := s.monitor.get x
  placed 28 m.quality.code ||| placed 24 m.holdOff.code ||| placed 16 m.muteCount ||| placedBit 10 m.settle.isSome
    ||| placedBit 9 (s.engine.get x).silent ||| placedBit 8 (s.signalling.mapMismatch.get x)
    ||| placedBit 7 (s.signalling.neighbourStandalone.get x) ||| placedBit 5 m.flag ||| placedBit 4 m.defects.excessive
    ||| placedBit 3 m.defects.miswired ||| placedBit 2 m.defects.mute ||| placedBit 1 m.defects.lof
    ||| placedBit 0 m.defects.los

/-- The eight words of a side in table 10 (R44, R99, R128, R148). -/
def sideWord (s : State) (x : Side) : Nat → Word
  | 0 =>
    placed 24 (s.receiver.get x).align.code ||| placed 16 (s.receiver.get x).badWords
      ||| placed 8 (s.buffer.get x).mode.code ||| placed 0 (s.buffer.get x).frames.length
  | 1 => statusWord s x
  | 2 => placed 0 (s.monitor.get x).density
  | 3 => (rateCode (s.monitor.get x).density).setWidth 32
  | 4 =>
    let c := s.condition.get x
    placed 24 c.detected.condition.code ||| placed 16 c.command.condition.code ||| placed 8 c.announced.code
      ||| placedBit 0 c.wtr.isSome
  | 5 => placed 0 (remainingIn Config.framesPerSecond (s.condition.get x).wtr)
  | 6 =>
    let e := s.engine.get x
    placed 24 e.phase.code ||| placedBit 16 (s.resolver.target.get x) ||| placedBit 15 e.confirm.isSome
      ||| placed 0 (remainingIn Config.framesPerUnit e.confirm)
  | 7 => s.squelch.results.get x
  | _ => 0#32

/-- Table 10: East in words 0 to 7, West in words 8 to 15. -/
def sideStateWord (s : State) (i : Nat) : Word :=
  if i < 8 then sideWord s .east i else sideWord s .west (i - 8)

/-- Table 12 (R169). -/
def eventsWord (s : State) : Nat → Word
  | 0 => s.events.held
  | 1 => s.events.latches
  | 2 => s.events.rise
  | 3 => s.events.fall
  | 4 => s.events.notify
  | 5 => s.events.alert
  | 6 => placedBit 8 s.events.pending ||| s.events.sequence.setWidth 32
  | _ => 0#32

/-- The number of words of a table (11). -/
def tableSize : Nat → Nat
  | 0 => 4
  | 1 => 7
  | 2 => 33
  | 3 | 4 | 5 | 6 | 7 | 8 => 64
  | 9 => 66
  | 10 => 16
  | 11 => 18
  | 12 => 7
  | _ => 0

/-- Word i of a table as a READ returns it. -/
def readWord (s : State) (table i : Nat) : Word :=
  match table with
  | 0 => identityWord s i
  | 1 => profileWord s.profile i
  | 2 => ringMapWord s.ringMap i
  | 3 => slotWord (elementAt s.tables.slot.standby i .unused)
  | 4 => slotWord (elementAt s.tables.slot.active i .unused)
  | 5 => slotWord (elementAt s.tables.extra.standby i .unused)
  | 6 => slotWord (elementAt s.tables.extra.active i .unused)
  | 7 => circuitWord (elementAt s.tables.circuit.standby i none)
  | 8 => circuitWord (elementAt s.tables.circuit.active i none)
  | 9 => rctWord s i
  | 10 => sideStateWord s i
  | 11 => elementAt s.counters i 0#32
  | 12 => eventsWord s i
  | _ => 0#32

/-- `count` words from `index` onward. -/
def readWords (s : State) (table index count : Nat) : List Word :=
  (List.range count).map fun k => readWord s table (index + k)

/-- Index and count reach beyond the last word of the table (R160, R161). -/
def beyond (table index count : Nat) : Bool :=
  decide (tableSize table < index + count)

/-- Some named word of the table passes a test on its index. -/
def anyNamed (table index count : Nat) (test : Nat → Bool) : Bool :=
  (List.range (tableSize table)).any fun i => decide (index ≤ i) && decide (i < index + count) && test i

/-! ### Checking and storing one word (R133, R162, R179) -/

/-- A Slot Map or Extra Map record taken from a word; absent when a stored field is out of its range (R133, R179). -/
def slotOfWord (w : Word) : Option SlotRecord :=
  let t := fieldAt w 8 8
  let d := fieldAt w 0 8
  let source : Option OutSource :=
    match fieldAt w 30 2 with
    | 0 => some .void
    | 1 => some .through
    | 2 => if h : t < 64 then some (.add ⟨t, h⟩) else none
    | _ => none
  let drop : Option (Option (Fin 64)) :=
    if w.getLsbD 29 then if h : d < 64 then some (some ⟨d, h⟩) else none else some none
  match source, drop with
  | some a, some b => some ⟨a, b⟩
  | _, _ => none

/-- A Circuit Table record taken from a word; absent when a stored field is out of its range (R133). -/
def circuitOfWord (w : Word) : Option (Option Circuit) :=
  let o := fieldAt w 8 8
  let t := fieldAt w 0 8
  if w.getLsbD 31 then
    if h : o < 63 ∧ t < 63 then
      if o = t then none else some (some ⟨⟨o, h.1⟩, ⟨t, h.2⟩, w.getLsbD 30⟩)
    else none
  else some none

/-- A value taken to the nearer limit of its range (R162). -/
def clamped (lo hi v : Nat) : Nat :=
  max lo (min hi v)

/-- A word is out of the structural range of its place (R51, R133, R162, R179). -/
def outOfRange (table i : Nat) (w : Word) : Bool :=
  match table with
  | 0 => decide (62 < w.toNat)
  | 1 => i == 6 && (Port.ofRoute (fieldAt w 0 8)).isNone
  | 2 => if i = 0 then decide (32 < fieldAt w 16 16) else decide (63 < w.toNat)
  | 3 | 5 => (slotOfWord w).isNone
  | 7 => (circuitOfWord w).isNone
  | _ => false

/-- The halves of a word as an East and West pair. -/
def pairOf (w : Word) : Sides Half :=
  ⟨w.extractLsb' 16 16, w.extractLsb' 0 16⟩

/-- A Profile word stored, numeric fields taken to the nearer limit (R43, R90, R121, R162, R179). -/
def storeProfile (p : Profile) (i : Nat) (w : Word) : Profile :=
  match i with
  | 0 => { p with weight := pairOf w }
  | 1 => { p with tOn := pairOf w }
  | 2 => { p with tOff := pairOf w }
  | 3 => { p with tFail := pairOf w }
  | 4 => { p with holdOffTime := clamped 0 1000 (fieldAt w 16 16), settleTime := clamped 0 1000 (fieldAt w 0 16) }
  | 5 => { p with wtrTime := clamped 1 3600 (fieldAt w 16 16), confirmTimeout := clamped 2 500 (fieldAt w 0 16) }
  | 6 =>
    { p with
      responseHop := clamped 1 31 (fieldAt w 24 8)
      pollSelector := ⟨min 3 (fieldAt w 16 8), Nat.lt_succ_of_le (Nat.min_le_left 3 _)⟩
      noticeDestination := BitVec.ofNat 6 (min 63 (fieldAt w 8 8))
      noticeRoute := (Port.ofRoute (fieldAt w 0 8)).getD p.noticeRoute }
  | _ => p

/-- The Ring Map entry taken from a word: 63 is empty (R178). -/
def idOfWord (w : Word) : Option (Fin 63) :=
  if h : w.toNat < 63 then some ⟨w.toNat, h⟩ else none

/-- An element of a vector replaced, where the index is within it. -/
def replaced {α : Type} {n : Nat} (v : Vector α n) (i : Nat) (a : α) : Vector α n :=
  if h : i < n then v.set i a h else v

/-- A Ring Map word stored (R50, R51, R179). -/
def storeRingMap (m : RingMap) (i : Nat) (w : Word) : RingMap :=
  match i with
  | 0 => { m with n := fieldAt w 16 16, ringId := w.extractLsb' 0 16 }
  | p + 1 => { m with ids := replaced m.ids p (idOfWord w) }

/-- A word of table 12 stored: positions beyond the 31 sources, and in word 3 those of the pulse events, are not (R169). -/
def storeEvents (e : EventUnit) (i : Nat) (w : Word) : EventUnit :=
  match i with
  | 2 => { e with rise := w &&& Config.sourceMask }
  | 3 => { e with fall := w &&& Config.liveMask }
  | 4 => { e with notify := w &&& Config.sourceMask }
  | 5 => { e with alert := w &&& Config.sourceMask }
  | _ => e

/-- One word stored in a writable table (R48, R51, R133, R162, R169). -/
def storeWord (s : State) (table i : Nat) (w : Word) : State :=
  match table with
  | 0 => if i = 1 then s.setIdentity { s.identity with nodeId := w.setWidth 6 } else s
  | 1 => s.setProfile (storeProfile s.profile i w)
  | 2 => s.setRingMap (storeRingMap s.ringMap i w)
  | 3 =>
    match slotOfWord w with
    | some r => s.setTables { s.tables with slot := { s.tables.slot with standby := replaced s.tables.slot.standby i r } }
    | none => s
  | 5 =>
    match slotOfWord w with
    | some r =>
      s.setTables { s.tables with extra := { s.tables.extra with standby := replaced s.tables.extra.standby i r } }
    | none => s
  | 7 =>
    match circuitOfWord w with
    | some r =>
      s.setTables { s.tables with circuit := { s.tables.circuit with standby := replaced s.tables.circuit.standby i r } }
    | none => s
  | 12 => s.setEvents (storeEvents s.events i w)
  | _ => s

/-- Words stored from index onward (R161). -/
def storeWords (s : State) (table index : Nat) (words : List Word) : State :=
  (words.zipIdx index).foldl (fun s wi => storeWord s table wi.2 wi.1) s

/-! ### WRITE, SET, CLEAR (R48, R49, R51, R85, R133, R134, R161, R169) -/

/-- A word of the table that no write may reach in the part's present mode (R48, R49, R160, R161, R169). -/
def writeProtected (s : State) (table i : Nat) : Bool :=
  match table with
  | 0 => i != 1 || s.joined
  | 12 => i == 0 || i == 1 || i == 6
  | _ => false

/-- A table that answers every write REFUSED in the present mode, whatever its index (R51, R85, R133, R160). -/
def refusesWrites (s : State) (table : Nat) : Bool :=
  match table with
  | 2 => s.joined
  | 4 | 6 | 8 | 9 | 10 | 11 => true
  | _ => false

/-- A standby bank of the connection tables (R132). -/
def isStandby (table : Nat) : Bool :=
  table == 3 || table == 5 || table == 7

/-- The status of a WRITE, SET or CLEAR that would store `words` from `index` onward, by the table's order of checks
(R48, R51, R133, R161, R169). -/
def writeStatus (s : State) (table index : Nat) (words : List Word) : Status :=
  if isStandby table && s.tables.commit.isSome then .retry
  else if refusesWrites s table || anyNamed table index words.length (writeProtected s table) then .refused
  else if beyond table index words.length then .range
  else if (words.zipIdx index).any fun wi => outOfRange table wi.2 wi.1 then .range
  else .done

/-- A request answered RETRY advances the retries counter and sets the retry flag (R136). -/
def countRetry (s : State) : State :=
  (s.bump .retries 1).setTables { s.tables with retryFlag := true }

/-! ### READ-CLEAR (R160, R169, R174) -/

/-- The status of a READ-CLEAR: only the counters and the latch word accept it (R160, R169). -/
def readClearStatus (table index count : Nat) : Status :=
  if table = 11 then if beyond table index count then .range else .done
  else if table = 12 then
    if anyNamed table index count (· != 1) then .refused else if beyond table index count then .range else .done
  else .refused

/-- The counters named become 0; a range that includes index 16 clears the retry flag (R174). -/
def clearCounters (index count : Nat) (s : State) : State :=
  let named := fun i : Nat => decide (index ≤ i) && decide (i < index + count)
  let s1 := s.setCounters (Vector.ofFn fun i : Fin 18 => if named i.val then 0#32 else s.counters[i])
  if named 16 then s1.setTables { s1.tables with retryFlag := false } else s1

/-- What a READ-CLEAR answered DONE clears: the counters named, or all latches (R169, R174). -/
def clearRead (table index count : Nat) (s : State) : State :=
  if table = 11 then clearCounters index count s
  else if table = 12 then s.setEvents { s.events with latches := 0#32 }
  else s

/-! ### Poll records (R165, 11) -/

/-- The own segment's two ends, or 0xFF absent (11). -/
def segmentCode (g : Option (Nat × Nat)) : Word :=
  match g with
  | some (a, b) => placed 24 a ||| placed 16 b
  | none => placed 24 0xFF ||| placed 16 0xFF

/-- Selector 0 (R165). -/
def nodeSummary (s : State) : List Word :=
  [s.frameCount,
   placed 24 s.identity.nodeId.toNat ||| placedBit 16 s.joined ||| placed 8 (positionCode s.identity.position)
     ||| placed 0 s.resolver.role.code,
   s.resolver.restored,
   segmentCode s.resolver.segment ||| placedBit 8 s.resolver.ringQuiet ||| placedBit 0 s.park,
   placed 24 s.condition.east.announced.code ||| placed 16 s.engine.east.phase.code
     ||| placed 8 s.condition.west.announced.code ||| placed 0 s.engine.west.phase.code,
   s.ringMap.digest.setWidth 32 <<< 16 ||| placedBit 3 s.tables.commit.isSome ||| placedBit 2 s.tables.retryFlag
     ||| placedBit 1 s.squelch.squelching ||| placedBit 0 s.squelch.tableFault]

/-- Selectors 1 and 2 (R165). -/
def sideSummary (s : State) (x : Side) : List Word :=
  [statusWord s x, placed 0 (s.monitor.get x).density, (rateCode (s.monitor.get x).density).setWidth 32,
   s.count (.violations x), s.count (.erroredFrames x)]

/-- Selector 3 (R165). -/
def counterSummary (s : State) : List Word :=
  [s.count .transitDrops, s.count .requestOverflows, s.count .retries, s.count .tributaryCellsDiscarded,
   s.count (.slips .east), s.count (.slips .west), s.count (.alignmentLosses .east), s.count (.alignmentLosses .west)]

/-- The poll record chosen by the poll selector; words not listed are 0 (R165). -/
def pollRecord (s : State) : List Word :=
  match s.profile.pollSelector with
  | 0 => nodeSummary s
  | 1 => sideSummary s .east
  | 2 => sideSummary s .west
  | 3 => counterSummary s

end Sys2Proof.Machine
end

