-- ==== Sys2Proof/Machine/Agent.lean ====
section
/-! DEFINITION. The Management Agent: the turn, its round-robin choice, the response, and the tests every request meets
(R157 to R159); the reset of every block (R164). -/

namespace Sys2Proof.Machine

/-! ### The turn (R157) -/

/-- The queue after this one in the round-robin order: East, West, Local, and back to East (R157). -/
def nextPort : Port → Port
  | .east => .west
  | .west => .tributary
  | .tributary => .east

/-- A head request is takable when the transmit queue of its arrival port has a free place (R157). -/
def State.takable (s : State) (q : Port) : Bool :=
  !(s.requests.get q).isEmpty && (s.transmit.get q).hasPlace

/-- The queues in the order a turn considers them (R157). -/
def turnOrder (q : Port) : List Port :=
  [q, nextPort q, nextPort (nextPort q)]

/-- The port and the request of the turn that is due: the head of the first takable queue from the pointer on (R157). -/
def State.nextTurn (s : State) : Option (Port × Cell) :=
  ((turnOrder s.pointer).find? s.takable).bind fun q => (s.requests.get q).head?.map fun c => (q, c)

/-- Steps 1 to 3 of a turn: the request leaves its queue, a place is reserved, the pointer moves on (R157). -/
def takeRequest (q : Port) (s : State) : State :=
  ((s.setRequests (s.requests.update q List.tail)).updateTransmit q TransmitQueue.reserve).setPointer (nextPort q)

/-- Step 5 of a turn: the response is written into the reserved place (R157, R158). Its count is that of the request, and 8
for POLL. -/
def respond (q : Port) (c : Cell) (st : Status) (words : List Word) (s : State) : State :=
  s.updateTransmit q
    (·.fulfil (responseCell q c s.profile.responseHop s.identity.nodeId
      (if c.operation = 8#8 then 8#8 else c.count) st words))

/-- One turn of the Agent, for the rows whose requests are of this kind; `close` takes it as one event. A turn that is not due,
or takes a request of another kind, is no event of the row (R157; log 1). -/
def turnAs (close : (State → State) → State → State) (kind : Request) (serve : Port → Cell → State → State) (s : State) :
    State :=
  match s.nextTurn with
  | some (q, c) =>
    if s.resetN && c.request == kind then close (fun s => serve q c (takeRequest q s)) s else s
  | none => s

/-- A turn that ends as any event does. -/
def turn (kind : Request) (serve : Port → Cell → State → State) (s : State) : State :=
  turnAs event kind serve s

/-! ### The tests of R159 -/

/-- Test 1: a request whose data check fails is answered CHECK and not executed (R159). -/
def checked (serve : Port → Cell → State → State) (q : Port) (c : Cell) (s : State) : State :=
  if c.dataGood then serve q c s else respond q c .check [] s

/-- Tests 3 and 4, for the operations that address a table (R159). -/
def tableTest (c : Cell) : Option Status :=
  if 12 < c.table.toNat then some .unknown
  else if c.count.toNat = 0 ∨ 8 < c.count.toNat then some .range
  else none

/-- A request that addresses a table: the first status of R159 that applies, else the execution. -/
def addressed (serve : Port → Cell → State → State) (q : Port) (c : Cell) (s : State) : State :=
  match tableTest c with
  | some st => respond q c st [] s
  | none => serve q c s

/-! ### Operations (R135, R160, R161, R165) -/

/-- READ (R160). -/
def serveRead (q : Port) (c : Cell) (s : State) : State :=
  if beyond c.table.toNat c.index.toNat c.count.toNat then respond q c .range [] s
  else respond q c .done (readWords s c.table.toNat c.index.toNat c.count.toNat) s

/-- READ-CLEAR: the values as they stood are returned, then cleared (R160, R174). -/
def serveReadClear (q : Port) (c : Cell) (s : State) : State :=
  match readClearStatus c.table.toNat c.index.toNat c.count.toNat with
  | .done =>
    let words := readWords s c.table.toNat c.index.toNat c.count.toNat
    respond q c .done words (clearRead c.table.toNat c.index.toNat c.count.toNat s)
  | st => respond q c st [] s

/-- The data words of a request within its count (R149). -/
def Cell.named (c : Cell) : List Word :=
  c.data.toList.take c.count.toNat

/-- The new words of a WRITE, SET or CLEAR: `form` makes each from the word held and the data word (R161). -/
def newWords (form : Word → Word → Word) (c : Cell) (s : State) : List Word :=
  (Cell.named c).zipIdx.map fun wi => form (readWord s c.table.toNat (c.index.toNat + wi.2)) wi.1

/-- WRITE, SET and CLEAR: checked as a whole, then every named word stored; the response shows the named words as they then
stand (R136, R158, R161). -/
def serveWrite (form : Word → Word → Word) (q : Port) (c : Cell) (s : State) : State :=
  let words := newWords form c s
  match writeStatus s c.table.toNat c.index.toNat words with
  | .done =>
    let s1 := storeWords s c.table.toNat c.index.toNat words
    respond q c .done (readWords s1 c.table.toNat c.index.toNat c.count.toNat) s1
  | .retry => respond q c .retry [] (countRetry s)
  | st => respond q c st [] s

/-- The drop tributaries that the standby records of the Slot Map and the Extra Map name (R135). -/
def Tables.standbyDrops (t : Tables) : List (Fin 64) :=
  (t.slot.standby.toList ++ t.extra.standby.toList).filterMap SlotRecord.drop

/-- The drop tributaries of the active records. -/
def Tables.activeDrops (t : Tables) : List (Fin 64) :=
  (t.slot.active.toList ++ t.extra.active.toList).filterMap SlotRecord.drop

/-- The validation of a COMMIT fails if any tributary is named by more than one record (R135). -/
def Tables.validates (t : Tables) : Bool :=
  decide t.standbyDrops.Nodup

/-- COMMIT: RETRY while one is pending, INVALID where the validation fails, else the flag is set and the response waits for
the swap in its reserved place (R135, R136). -/
def serveCommit (q : Port) (c : Cell) (s : State) : State :=
  if s.tables.commit.isSome then respond q c .retry [] (countRetry s)
  else if s.tables.validates then s.setTables { s.tables with commit := some ⟨q, c, s.identity.nodeId⟩ }
  else respond q c .invalid [] s

/-- POLL (R165). -/
def servePoll (q : Port) (c : Cell) (s : State) : State :=
  respond q c .done (pollRecord s) s

/-- A bank swapped: standby becomes active, and the standby bank is a copy of it (R137). -/
def Banks.swapped {α : Type} (b : Banks α) : Banks α :=
  ⟨b.standby, b.standby⟩

/-- The swap of a pending COMMIT; the Table Store has then taken the local frame start (R137). -/
def swapTables (pc : PendingCommit) (s : State) : State :=
  let t := s.tables
  let s1 := s.setTables
    { t with slot := t.slot.swapped, extra := t.extra.swapped, circuit := t.circuit.swapped, commit := none }
  ((s1.setInstant { s.instant with swapTurn := false }).updateTransmit pc.port
    (·.fulfil (responseCell pc.port pc.request s.profile.responseHop pc.sourceId pc.request.count .done []))).raise
    .commitDone

/-! ### Commands (R92 to R95, R55 to R57, R163) -/

/-- A command that is accepted has its effect and is answered DONE; else it is answered REFUSED and changes nothing
(R163). -/
def serveCommand (accepted : State → Bool) (effect : State → State) (q : Port) (c : Cell) (s : State) : State :=
  if accepted s then respond q c .done [] (effect s) else respond q c .refused [] s

/-- FORCE is accepted while JOINED with no learned PARK (R93). -/
def forceAccepted (s : State) : Bool :=
  s.joined && !s.learnedPark

/-- MANUAL is accepted while JOINED with no learned FADE or higher (R93). -/
def manualAccepted (s : State) : Bool :=
  s.joined && !s.learnedTrouble

/-- The side command takes a value (R93). -/
def setCommand (x : Side) (k : SideCommand) (s : State) : State :=
  announce (s.updateCondition x fun c => { c with command := k })

/-- The PARK command is set or cleared (R94). -/
def setParkCommand (v : Bool) (s : State) : State :=
  announce (s.setPark v)

/-- CLEAR: the side command becomes NONE, and a HOLD ends at once (R95). -/
def ConditionSide.clearCommand (c : ConditionSide) : ConditionSide :=
  let c1 := { c with command := .none }
  if c.detected = .hold then c1.become .idle else c1

def clearSide (x : Side) (s : State) : State :=
  announce (s.updateCondition x ConditionSide.clearCommand)

/-- The Ring Map lets a node join: N from 3 to 32, every entry below N a node ID, no two equal (R55). -/
def RingMap.complete (m : RingMap) : Bool :=
  let ids := (List.range m.n).map m.idAt
  decide (3 ≤ m.n) && decide (m.n ≤ 32) && ids.all Option.isSome && decide ids.Nodup

/-- The own position that JOIN would fix (R55). -/
def State.joinPosition (s : State) : Option (Fin 32) :=
  (s.ringMap.positionOf s.identity.nodeId.toNat).bind fun p => if h : p < 32 then some ⟨p, h⟩ else none

/-- JOIN is accepted (R55). -/
def joinAccepted (s : State) : Bool :=
  !s.joined && s.ringMap.complete && s.joinPosition.isSome

/-- Every entry of the table unlearned (R61, R83, R84). -/
def unlearnAll (s : State) : State :=
  s.setSignalling { s.signalling with rct := Vector.replicate 64 Entry.unlearned }

/-- An accepted JOIN (R56, R83). -/
def joinEffect (s : State) : State :=
  let s1 := (unlearnAll s).setIdentity { s.identity with joined := true, position := s.joinPosition }
  tableNotice (joinHoldOff .west (joinHoldOff .east s1))

/-- LEAVE is accepted while JOINED with both engines IDLE (R57). -/
def leaveAccepted (s : State) : Bool :=
  s.joined && s.engine.east.phase == .idle && s.engine.west.phase == .idle

/-- An accepted LEAVE: the commands are cleared and the own entries follow; the remote entries are unlearned; the part is
STANDALONE; the hold-offs end; the Resolver takes its STANDALONE state (R57, R84, log 15). -/
def leaveEffect (s : State) : State :=
  let c := s.condition
  let s1 := formAnnounced
    ((s.setCondition ⟨{ c.east with command := .none }, { c.west with command := .none }⟩).setPark false)
  let s2 := (unlearnAll s1).setIdentity { s1.identity with joined := false, position := none }
  recompute (s2.setMonitor ⟨s2.monitor.east.endHoldOff, s2.monitor.west.endHoldOff⟩)

/-! ### The reset of every block (R42, R82, R127, R132, R162, R164, R175) -/

/-- Every block takes its power-on reset state; the pins, the parity of the last frames sent, the frames being sent and the
waiting commands are no block's reset state and stay, and a local frame start that has been issued still has its frames built
(R1, R6, R164; logs 5, 6, 12, 13). DESIGN CHOICE (log 28): the Table Store may take such a local frame start, also one that it
had taken before the reset (R137, R138). -/
def resetBlocks (identity : Identity) (s : State) : State :=
  { State.reset with
    resetN := s.resetN, instant := ⟨s.instant.begun, s.instant.begun⟩, losPin := s.losPin, sentParity := s.sentParity
    sent := s.sent, pending := s.pending
    monitor := ⟨Monitor.reset s.losPin.east, Monitor.reset s.losPin.west⟩
    events := EventUnit.reset s.losPin, identity := identity }

end Sys2Proof.Machine
end

