-- ==== Sys2Proof/Machine/TimerCommands.lean ====
section
/-! DEFINITION. The timer expiries (R26, R41, R90, R114, R119) and NOTICE_SEND_ATTEMPT (R171). -/

namespace Sys2Proof.Machine

/-- The hold-off enters STANDING and the standing defect is reported (R26, R27). -/
def holdOffExpires (x : Side) (s : State) : State :=
  takeReport x (s.updateMonitor x fun m => { m with holdOff := .standing, holdOffTimer := none }) .standingDefect

/-- The expiry of the hold-off timer, due while the side is HOLDING and its timer has run out (R26). -/
def takeHoldOffExpiry (x : Side) (s : State) : State :=
  if s.resetN && timerDue (s.monitor.get x).holdOffTimer && (s.monitor.get x).holdOff == .holding then
    event (holdOffExpires x) s
  else s

/-- HOLD_OFF_EXPIRY (R26). -/
def execHoldOffExpiry (x : Side) (s : State) : Host.Outcome State Fault Refusal :=
  .next (takeHoldOffExpiry x s)

/-- The settle mask ends: quality is evaluated by the d reached, and the change is reported with the flag re-formed (R41). -/
def settleExpires (x : Side) (s : State) : State :=
  let m := s.monitor.get x
  let m1 := { m.evaluate s.profile x with settle := none }
  closeMonitor x (qualityReports m.quality m1.quality) (s.setMonitor (s.monitor.set x m1))

/-- The expiry of the settle mask timer, due once it has run out (R41). -/
def takeSettleMaskExpiry (x : Side) (s : State) : State :=
  if s.resetN && timerDue (s.monitor.get x).settle then event (settleExpires x) s else s

/-- SETTLE_MASK_EXPIRY (R41). -/
def execSettleMaskExpiry (x : Side) (s : State) : Host.Outcome State Fault Refusal :=
  .next (takeSettleMaskExpiry x s)

/-- The wait ends: the HOLD side becomes IDLE (R90). -/
def wtrExpires (x : Side) (s : State) : State :=
  announce (s.updateCondition x fun c => c.become .idle)

/-- The expiry of the WTR timer, due while the side is HOLD and its timer has run out (R90). -/
def takeWtrExpiry (x : Side) (s : State) : State :=
  if s.resetN && timerDue (s.condition.get x).wtr && (s.condition.get x).detected == .hold then event (wtrExpires x) s
  else s

/-- WTR_EXPIRY (R90). -/
def execWtrExpiry (x : Side) (s : State) : Host.Outcome State Fault Refusal :=
  .next (takeWtrExpiry x s)

/-- The engine's change on expiry, its action written into the own entry, and the notice that follows (R63, R114, R119). -/
def confirmExpires (x : Side) (s : State) : State :=
  let s1 := writeAction (s.updateEngine x Engine.expire) x
  if s1.joined && decide (s1.ownContent ≠ s.ownContent) then tableNotice s1 else s1

/-- The expiry of the confirm timer, due while the engine waits and its timer has run out (R114, R119). -/
def takeConfirmTimerExpiry (x : Side) (s : State) : State :=
  if s.resetN && timerDue (s.engine.get x).confirm
      && ((s.engine.get x).phase == .bridged || (s.engine.get x).phase == .unlooping) then
    event (confirmExpires x) s
  else s

/-- CONFIRM_TIMER_EXPIRY (R114, R119). -/
def execConfirmTimerExpiry (x : Side) (s : State) : Host.Outcome State Fault Refusal :=
  .next (takeConfirmTimerExpiry x s)

/-- A send attempt: the pending notice is written if the queue its route names has a free place (R171). -/
def sendAttempt (s : State) : State :=
  if noticeHasPlace s then writeNotice s else s.setEvents { s.events with attempts := s.events.attempts - 1 }

/-- NOTICE_SEND_ATTEMPT, due while the notice-pending flag is set and a removal has prompted it (R171; log 16). -/
def execNoticeSendAttempt (s : State) : Host.Outcome State Fault Refusal :=
  .next (if s.resetN && s.events.pending && decide (0 < s.events.attempts) then event sendAttempt s else s)

end Sys2Proof.Machine
end

