-- ==== Sys2Proof/Machine/FrameCommands.lean ====
section
/-! DEFINITION. LOCAL_FRAME_START (R1, R5, R19) and COMMIT_SWAP (R137). -/

namespace Sys2Proof.Machine

/-- The swap of a pending COMMIT, due from the issue of a local frame start until the Table Store has taken it (R137, R138). -/
def takeSwap (s : State) : State :=
  match s.tables.commit with
  | some pc => if s.resetN && s.instant.swapTurn then event (swapTables pc) s else s
  | none => s

/-- COMMIT_SWAP (R137). -/
def execCommitSwap (s : State) : Host.Outcome State Fault Refusal :=
  .next (takeSwap s)

/-- What fell due at the last local frame start and has not been taken when the next one comes: each is taken then, as an event
of its own, in one of the orders that R2, R19 and R137 allow (log 6). -/
def takeOverdue (s : State) : State :=
  [takeHoldOffExpiry .east, takeHoldOffExpiry .west, takeSettleMaskExpiry .east, takeSettleMaskExpiry .west,
    takeWtrExpiry .east, takeWtrExpiry .west, takeConfirmTimerExpiry .east, takeConfirmTimerExpiry .west,
    takeSwap].foldl (fun t take => take t) s

/-- A local frame start, or the part of it that is asked for. One that has been issued is not issued again before its frames
are built (R1, R19; log 6). -/
def frameStart (part : FrameStartPart) (s : State) : State :=
  match part, s.instant.begun with
  | .issue, true => s
  | .issue, false => event issueFrameStart (takeOverdue s)
  | .frames, true => event buildFrames s
  | .frames, false => event (fun s => buildFrames (issueFrameStart s)) (takeOverdue s)

/-- The local frame start while RESET_N is low: the count is held and the reset frames are sent (R1, R6). -/
def resetFrameStart (part : FrameStartPart) (s : State) : State :=
  match part with
  | .issue => s
  | .frames => (beginFrames (resetFrames s) s).setInstant ⟨false, false⟩

/-- LOCAL_FRAME_START (R1, R5, R6, R19). -/
def execLocalFrameStart (part : FrameStartPart) (s : State) : Host.Outcome State Fault Refusal :=
  .next (if s.resetN then frameStart part s else resetFrameStart part s)

end Sys2Proof.Machine
end

