-- ==== Sys2Proof/Machine/LineCommands.lean ====
section
/-! DEFINITION. The line receivers: ALIGNMENT_WORD_FOUND (R7), PRESYNC_WORD_CHECK (R8), ALIGNED_WORD_CHECK (R9),
ALIGNED_FRAME_ARRIVAL (R11), and TRIBUTARY_FRAME_ARRIVAL (R4). -/

namespace Sys2Proof.Machine

/-- The receiver of a side is in a state and takes its signal: RESET_N is high and LOS is not asserted (R7, R10). -/
def receiving (s : State) (x : Side) (a : Alignment) : Bool :=
  s.resetN && !s.losPin.get x && (s.receiver.get x).align == a

/-- ALIGNMENT_WORD_FOUND: SEARCH becomes PRESYNC, and no other block changes (R7, R21). -/
def execAlignmentWordFound (x : Side) (s : State) : Host.Outcome State Fault Refusal :=
  .next
    (if receiving s x .search then event (fun s => s.updateReceiver x fun r => { r with align := .presync }) s else s)

/-- An alignment word is good when all 32 of its bits agree (01 Frame alignment). -/
def goodWord (w : Word) : Bool :=
  w == Config.alignmentWord

/-- Entry to ALIGNED: the buffer becomes CENTERING and empty, and the Span Monitor takes the entry (R8, R14, R39). -/
def enterAligned (x : Side) (s : State) : State :=
  monitorEntersAligned x
    ((s.updateReceiver x fun _ => ⟨.aligned, 0, none⟩).updateBuffer x fun _ => ⟨.centering, [], none⟩)

/-- PRESYNC_WORD_CHECK: a good word enters ALIGNED, a bad one returns to SEARCH (R8). -/
def execPresyncWordCheck (x : Side) (word : Word) (s : State) : Host.Outcome State Fault Refusal :=
  .next
    (if receiving s x .presync then
      event (fun s =>
        if goodWord word then enterAligned x s else s.updateReceiver x fun r => { r with align := .search }) s
    else s)

/-- The word at the expected position in ALIGNED: a good word sets the bad-word count to 0, a bad one adds one, and the
fourth in a row departs (R9, R21). -/
def alignedWord (x : Side) (word : Word) (s : State) : State :=
  if goodWord word then s.updateReceiver x fun r => { r with badWords := 0 }
  else if (s.receiver.get x).badWords + 1 < Config.badWordLimit then
    s.updateReceiver x fun r => { r with badWords := r.badWords + 1 }
  else closeMonitor x [] (depart x s)

/-- ALIGNED_WORD_CHECK (R9). -/
def execAlignedWordCheck (x : Side) (word : Word) (s : State) : Host.Outcome State Fault Refusal :=
  .next (if receiving s x .aligned then event (alignedWord x word) s else s)

/-- The parity result of an arriving frame that has a checked predecessor (R13). -/
def parityResult (x : Side) (f : LineFrame) (s : State) : Option Nat :=
  (s.receiver.get x).heldParity.map (lanesInViolation f.parity)

/-- The Signalling Unit's merge of an arriving vector, where it qualifies (R74, R79). -/
def arrivalMerge (start : Sides OwnEntry) (x : Side) (v : SigVector) (qualifies : Bool) (s : State) : State :=
  if qualifies then mergeVector start s x v else s

/-- What an aligned frame's arrival hands on: the slots to the buffer, the vector to the Signalling Unit, the cell to the
Router, the arrival report and the parity result to the Span Monitor (R11, R13). The outcome and the merge test are those
of the state at the arrival; the merge and the Span Monitor's event are taken in the order given (R11; log 7). -/
def frameArrival (x : Side) (f : LineFrame) (order : ArrivalOrder) (s : State) : State :=
  let parity := parityResult x f s
  let outcome := vectorOutcome s x f.vector
  let qualifies := mergeable s x f.vector
  let s1 := (bufferArrival x f.slots s).updateReceiver x fun r => { r with heldParity := some (laneParity f.slots) }
  let s2 := noteVector s1 x f.vector
  let s3 :=
    match order with
    | .mergeFirst => monitorArrival x outcome parity (arrivalMerge s.signalling.own x f.vector qualifies s2)
    | .monitorFirst => arrivalMerge s.signalling.own x f.vector qualifies (monitorArrival x outcome parity s2)
  routeManagement (routeLineCell x) f.management s3

/-- ALIGNED_FRAME_ARRIVAL (R11). -/
def execAlignedFrameArrival (x : Side) (frame : LineFrame) (order : ArrivalOrder) (s : State) :
    Host.Outcome State Fault Refusal :=
  .next (if receiving s x .aligned then event (frameArrival x frame order) s else s)

/-- An inbound tributary frame: with a good alignment word its slots replace the holder and its cell goes to the Router; else
the whole frame is discarded (R4). -/
def tributaryArrival (f : TributaryFrame) (s : State) : State :=
  if goodWord f.alignment then routeManagement routeTributaryCell f.management (s.setHolder (some f.slots)) else s

/-- TRIBUTARY_FRAME_ARRIVAL; while RESET_N is low the tributary receiver takes no frames (R4). -/
def execTributaryFrameArrival (frame : TributaryFrame) (s : State) : Host.Outcome State Fault Refusal :=
  .next (if s.resetN then event (tributaryArrival frame) s else s)

end Sys2Proof.Machine
end

