-- ==== Sys2Proof/Machine/OperatorCommands.lean ====
section
/-! DEFINITION. The Agent turns that serve COMMAND requests (R92 to R95, R55 to R57, R163, R164). -/

namespace Sys2Proof.Machine

/-- FORCE-EAST (R93). -/
def execForceEast (s : State) : Host.Outcome State Fault Refusal :=
  .next (turn (.command .forceEast) (checked (serveCommand forceAccepted (setCommand .east .force))) s)

/-- FORCE-WEST (R93). -/
def execForceWest (s : State) : Host.Outcome State Fault Refusal :=
  .next (turn (.command .forceWest) (checked (serveCommand forceAccepted (setCommand .west .force))) s)

/-- MANUAL-EAST (R93). -/
def execManualEast (s : State) : Host.Outcome State Fault Refusal :=
  .next (turn (.command .manualEast) (checked (serveCommand manualAccepted (setCommand .east .manual))) s)

/-- MANUAL-WEST (R93). -/
def execManualWest (s : State) : Host.Outcome State Fault Refusal :=
  .next (turn (.command .manualWest) (checked (serveCommand manualAccepted (setCommand .west .manual))) s)

/-- PARK (R94). -/
def execPark (s : State) : Host.Outcome State Fault Refusal :=
  .next (turn (.command .park) (checked (serveCommand State.joined (setParkCommand true))) s)

/-- CLEAR-PARK (R94). -/
def execClearPark (s : State) : Host.Outcome State Fault Refusal :=
  .next (turn (.command .clearPark) (checked (serveCommand State.joined (setParkCommand false))) s)

/-- CLEAR-EAST (R95). -/
def execClearEast (s : State) : Host.Outcome State Fault Refusal :=
  .next (turn (.command .clearEast) (checked (serveCommand State.joined (clearSide .east))) s)

/-- CLEAR-WEST (R95). -/
def execClearWest (s : State) : Host.Outcome State Fault Refusal :=
  .next (turn (.command .clearWest) (checked (serveCommand State.joined (clearSide .west))) s)

/-- JOIN (R55, R56). -/
def execJoin (s : State) : Host.Outcome State Fault Refusal :=
  .next (turn (.command .join) (checked (serveCommand joinAccepted joinEffect)) s)

/-- LEAVE (R57). -/
def execLeave (s : State) : Host.Outcome State Fault Refusal :=
  .next (turn (.command .leave) (checked (serveCommand leaveAccepted leaveEffect)) s)

/-- RESTART: every block takes its power-on reset state in the turn, the straps are sampled, and no response is produced;
the Event Unit sees no change (R164, R166, R175). A request whose data check fails is answered CHECK (R159). -/
def execRestart (straps : BitVec 6) (s : State) : Host.Outcome State Fault Refusal :=
  .next
    (match s.nextTurn with
    | some (q, c) =>
      if s.resetN && c.request == .command .restart then
        if c.dataGood then resetBlocks (Identity.reset straps) s
        else event (fun s => respond q c .check [] (takeRequest q s)) s
      else s
    | none => s)

end Sys2Proof.Machine
end

