-- ==== Sys2Proof/Machine/PinCommands.lean ====
section
/-! DEFINITION. The pins: RESET_N_ASSERT, RESET_N_RELEASE (R6, R46), LOS_ASSERT, LOS_RELEASE (R10, R20). -/

namespace Sys2Proof.Machine

/-- RESET_N goes low: every block is held in its reset state; the straps are not sampled, so strap value and node ID in use
stand until the rising edge (R1, R6, R46; log 5). A pin already low does not change. -/
def execResetNAssert (s : State) : Host.Outcome State Fault Refusal :=
  .next (if s.resetN then (resetBlocks ⟨s.identity.strap, s.identity.nodeId, false, none⟩ s).setResetN false else s)

/-- The rising edge of RESET_N: the straps are sampled, the node ID in use takes their value, and every block starts from its
reset state (R1, R46, R47). A pin already high does not change. -/
def execResetNRelease (straps : BitVec 6) (s : State) : Host.Outcome State Fault Refusal :=
  .next (if s.resetN then s else (resetBlocks (Identity.reset straps) s).setResetN true)

/-- The receiver's response to LOS: ALIGNED departs, PRESYNC returns to SEARCH, SEARCH stays (R10). -/
def receiverLoses (x : Side) (s : State) : State :=
  match (s.receiver.get x).align with
  | .aligned => depart x s
  | .presync => s.updateReceiver x fun _ => Receiver.reset
  | .search => s

/-- The LOS defect takes a value (R20). -/
def Monitor.withLos (m : Monitor) (v : Bool) : Monitor :=
  { m with defects := { m.defects with los := v } }

/-- A LOS pin takes a level while RESET_N is low: the defect and the held value follow, and no change is seen (R20, R166). -/
def losInReset (x : Side) (v : Bool) (s : State) : State :=
  let s1 := (s.setLosPin (s.losPin.set x v)).updateMonitor x (·.withLos v)
  s1.setEvents { s1.events with held := liveValues s1 }

/-- A LOS pin goes high: LOS becomes present, and the receiver enters or stays in SEARCH with its search suspended (R10,
R20). -/
def losRises (x : Side) (s : State) : State :=
  closeMonitor x []
    ((receiverLoses x (s.setLosPin (s.losPin.set x true))).updateMonitor x fun m =>
      { m with defects := { m.defects with los := true, lof := true } })

/-- A LOS pin goes low: LOS becomes absent, and the receiver stays in SEARCH, where its search resumes (R10, R20). -/
def losFalls (x : Side) (s : State) : State :=
  closeMonitor x [] ((s.setLosPin (s.losPin.set x false)).updateMonitor x (·.withLos false))

/-- LOS_ASSERT; a pin already high does not change (R10, R20). -/
def execLosAssert (x : Side) (s : State) : Host.Outcome State Fault Refusal :=
  .next (if s.losPin.get x then s else if s.resetN then event (losRises x) s else losInReset x true s)

/-- LOS_RELEASE; a pin already low does not change (R10, R20). -/
def execLosRelease (x : Side) (s : State) : Host.Outcome State Fault Refusal :=
  .next (if !s.losPin.get x then s else if s.resetN then event (losFalls x) s else losInReset x false s)

end Sys2Proof.Machine
end

