-- ==== Sys2Proof/Machine/RequestCommands.lean ====
section
/-! DEFINITION. The Agent turns that serve READ, WRITE, SET, CLEAR, READ-CLEAR, COMMIT and POLL requests, and requests of
no known operation or command (R135, R136, R157 to R161, R165). -/

namespace Sys2Proof.Machine

/-- READ (R160). -/
def execRead (s : State) : Host.Outcome State Fault Refusal :=
  .next (turn .read (checked (addressed serveRead)) s)

/-- WRITE: the data words themselves (R161). -/
def execWrite (s : State) : Host.Outcome State Fault Refusal :=
  .next (turn .write (checked (addressed (serveWrite fun _ data => data))) s)

/-- SET: the word held with the mask bits added (R161). -/
def execSet (s : State) : Host.Outcome State Fault Refusal :=
  .next (turn .set (checked (addressed (serveWrite fun held mask => held ||| mask))) s)

/-- CLEAR: the word held with the mask bits removed (R161). -/
def execClear (s : State) : Host.Outcome State Fault Refusal :=
  .next (turn .clear (checked (addressed (serveWrite fun held mask => held &&& ~~~mask))) s)

/-- READ-CLEAR; it prompts no notice (R160, R170; log 26). -/
def execReadClear (s : State) : Host.Outcome State Fault Refusal :=
  .next (turnAs readClearEvent .readClear (checked (addressed serveReadClear)) s)

/-- COMMIT: table, count and index are not examined (R135, R159). -/
def execCommit (s : State) : Host.Outcome State Fault Refusal :=
  .next (turn .commit (checked serveCommit) s)

/-- POLL: table, count and index are not examined (R159, R165). -/
def execPoll (s : State) : Host.Outcome State Fault Refusal :=
  .next (turn .poll (checked servePoll) s)

/-- A request whose operation names none of the eight (R159). -/
def execUnknownOperation (s : State) : Host.Outcome State Fault Refusal :=
  .next (turn .unknownOperation (checked fun q c s => respond q c .unknown [] s) s)

/-- A COMMAND request whose data word 0 names none of the eleven commands (R159). -/
def execUnknownCommand (s : State) : Host.Outcome State Fault Refusal :=
  .next (turn .unknownCommand (checked fun q c s => respond q c .unknown [] s) s)

end Sys2Proof.Machine
end

