-- ==== Sys2Proof/Machine/Dispatch.lean ====
section
/-! DEFINITION. exec: one arm for each command, in the order of spec/opcode_table.json. -/

namespace Sys2Proof.Machine

def exec (i : Instr) (s : State) : Host.Outcome State Fault Refusal :=
  match i with
  | .resetNAssert => Sys2Proof.Machine.execResetNAssert s
  | .resetNRelease straps => Sys2Proof.Machine.execResetNRelease straps s
  | .localFrameStart part => Sys2Proof.Machine.execLocalFrameStart part s
  | .commitSwap => Sys2Proof.Machine.execCommitSwap s
  | .losAssert x => Sys2Proof.Machine.execLosAssert x s
  | .losRelease x => Sys2Proof.Machine.execLosRelease x s
  | .alignmentWordFound x => Sys2Proof.Machine.execAlignmentWordFound x s
  | .presyncWordCheck x word => Sys2Proof.Machine.execPresyncWordCheck x word s
  | .alignedWordCheck x word => Sys2Proof.Machine.execAlignedWordCheck x word s
  | .alignedFrameArrival x frame order => Sys2Proof.Machine.execAlignedFrameArrival x frame order s
  | .holdOffExpiry x => Sys2Proof.Machine.execHoldOffExpiry x s
  | .settleMaskExpiry x => Sys2Proof.Machine.execSettleMaskExpiry x s
  | .wtrExpiry x => Sys2Proof.Machine.execWtrExpiry x s
  | .confirmTimerExpiry x => Sys2Proof.Machine.execConfirmTimerExpiry x s
  | .tributaryFrameArrival frame => Sys2Proof.Machine.execTributaryFrameArrival frame s
  | .read => Sys2Proof.Machine.execRead s
  | .write => Sys2Proof.Machine.execWrite s
  | .set => Sys2Proof.Machine.execSet s
  | .clear => Sys2Proof.Machine.execClear s
  | .readClear => Sys2Proof.Machine.execReadClear s
  | .commit => Sys2Proof.Machine.execCommit s
  | .poll => Sys2Proof.Machine.execPoll s
  | .forceEast => Sys2Proof.Machine.execForceEast s
  | .forceWest => Sys2Proof.Machine.execForceWest s
  | .manualEast => Sys2Proof.Machine.execManualEast s
  | .manualWest => Sys2Proof.Machine.execManualWest s
  | .park => Sys2Proof.Machine.execPark s
  | .clearPark => Sys2Proof.Machine.execClearPark s
  | .clearEast => Sys2Proof.Machine.execClearEast s
  | .clearWest => Sys2Proof.Machine.execClearWest s
  | .join => Sys2Proof.Machine.execJoin s
  | .leave => Sys2Proof.Machine.execLeave s
  | .restart straps => Sys2Proof.Machine.execRestart straps s
  | .noticeSendAttempt => Sys2Proof.Machine.execNoticeSendAttempt s
  | .unknownOperation => Sys2Proof.Machine.execUnknownOperation s
  | .unknownCommand => Sys2Proof.Machine.execUnknownCommand s

end Sys2Proof.Machine
end

