-- ==== Sys2Proof/Safety.lean ====
section
/-! DEFINITION. What the state of the part keeps to in every run, block by block, in the terms that claims use. Each
predicate names the rules it gathers; `Sound` is all of them together. -/

namespace Sys2Proof

/-- The payload of slot number j of a frame in transmission order: W0 to W31, then P0 to P31 (R3). -/
def LineSlots.payloadOf (f : LineSlots) (j : Fin 64) : Payload :=
  (f.working ++ f.protection)[j].payload

/-- The command of the opcode table whose turn takes a request of a kind; RESTART samples the straps. -/
def Request.row (straps : BitVec 6) : Request → Instr
  | .read => .read
  | .write => .write
  | .set => .set
  | .clear => .clear
  | .readClear => .readClear
  | .commit => .commit
  | .poll => .poll
  | .unknownOperation => .unknownOperation
  | .unknownCommand => .unknownCommand
  | .command .forceEast => .forceEast
  | .command .forceWest => .forceWest
  | .command .manualEast => .manualEast
  | .command .manualWest => .manualWest
  | .command .park => .park
  | .command .clearPark => .clearPark
  | .command .clearEast => .clearEast
  | .command .clearWest => .clearWest
  | .command .join => .join
  | .command .leave => .leave
  | .command .restart => .restart straps

/-- The commands that can reset every block: the RESET_N commands and RESTART. -/
def Instr.resets (c : Instr) : Prop :=
  c = .resetNAssert ∨ ∃ straps, c = .resetNRelease straps ∨ c = .restart straps

namespace Machine

/-! ### The line receivers and their buffers (R7 to R17) -/

/-- One side's receiver and alignment buffer. -/
structure LineSound (s : State) (x : Side) : Prop where
  /-- A receiver whose LOS input is asserted is in SEARCH (R10). -/
  search : s.losPin.get x = true → (s.receiver.get x).align = .search
  /-- The bad-word count is below 4 between events (R9). -/
  badWords : (s.receiver.get x).badWords < Config.badWordLimit
  /-- Outside ALIGNED the bad-word count is 0 and no frame parity is held (R7, R9, R13). -/
  unaligned : (s.receiver.get x).align ≠ .aligned →
    (s.receiver.get x).badWords = 0 ∧ (s.receiver.get x).heldParity = none
  /-- The buffer is FLUSHED exactly while the receiver is not ALIGNED (R14). -/
  flushed : (s.buffer.get x).mode = .flushed ↔ (s.receiver.get x).align ≠ .aligned
  /-- A FLUSHED buffer holds no frames and no last frame read (R14). -/
  empty : (s.buffer.get x).mode = .flushed → (s.buffer.get x).frames = [] ∧ (s.buffer.get x).last = none
  /-- A RUNNING buffer has a last frame read (R16). -/
  last : (s.buffer.get x).mode = .running → (s.buffer.get x).last.isSome
  /-- The buffer holds at most 4 frames (R14). -/
  capacity : (s.buffer.get x).frames.length ≤ Config.bufferCapacity

/-! ### The Span Monitors (R20 to R41) -/

/-- One side's Span Monitor. -/
structure MonitorSound (s : State) (x : Side) : Prop where
  /-- The LOS defect is the level of the pin (R20). -/
  los : (s.monitor.get x).defects.los = s.losPin.get x
  /-- The LOF defect is present exactly while the receiver is not ALIGNED (R21). -/
  lof : (s.monitor.get x).defects.lof = true ↔ (s.receiver.get x).align ≠ .aligned
  /-- The EXCESSIVE defect is present exactly while quality is EXCESSIVE (R25). -/
  excessive : (s.monitor.get x).defects.excessive = true ↔ (s.monitor.get x).quality = .excessive
  /-- The MUTE count stays within 0 to 8 (R23). -/
  muteCount : (s.monitor.get x).muteCount ≤ Config.muteLimit
  /-- MUTE is present exactly while the count is 8 (R23). -/
  mute : (s.monitor.get x).defects.mute = true ↔ (s.monitor.get x).muteCount = Config.muteLimit
  /-- The defect flag is present while any defect is (R25). -/
  flag : (s.monitor.get x).flag = (s.monitor.get x).defects.present
  /-- The error density stays within its range (R30). -/
  density : (s.monitor.get x).density ≤ Config.densityMax
  /-- While the settle mask runs, the receiver is ALIGNED and quality is GOOD (R40, R41). -/
  settle : (s.monitor.get x).settle.isSome → (s.receiver.get x).align = .aligned ∧ (s.monitor.get x).quality = .good
  /-- The hold-off timer runs exactly while the side is HOLDING (R26). -/
  holding : (s.monitor.get x).holdOffTimer.isSome ↔ (s.monitor.get x).holdOff = .holding
  /-- The hold-off is ABSENT exactly while the part is STANDALONE or the flag is absent (R26, R28). -/
  absent : (s.monitor.get x).holdOff = .absent ↔ (s.joined = false ∨ (s.monitor.get x).flag = false)

/-! ### The Condition Unit and the own entries (R62, R90, R92, R98) -/

/-- One side's conditions and own entry. -/
structure ConditionSound (s : State) (x : Side) : Prop where
  /-- The WTR timer runs exactly while the side is HOLD (R90). -/
  wtr : (s.condition.get x).wtr.isSome ↔ (s.condition.get x).detected = .hold
  /-- The announced condition is the highest of its inputs (R98). -/
  announced : (s.condition.get x).announced = (s.condition.get x).highest s.park
  /-- While the part is STANDALONE no command stands (R92). -/
  commands : s.joined = false → (s.condition.get x).command = .none ∧ s.park = false
  /-- The own entry holds the announced condition (R62). -/
  ownCondition : (s.signalling.own.get x).condition = (s.condition.get x).announced
  /-- The own entry holds the action of the side's engine (R62). -/
  ownAction : (s.signalling.own.get x).action = (s.engine.get x).phase.action

/-! ### The identity and the Ring Condition Table (R53, R55, R60, R61) -/

/-- The mode, the map and the own position. -/
structure IdentitySound (s : State) : Prop where
  /-- A STANDALONE part has no own position (R53). -/
  standalone : s.joined = false → s.identity.position = none
  /-- A JOINED part's map passes the tests of JOIN (R53, R55). -/
  complete : s.joined = true → s.ringMap.complete = true
  /-- A JOINED part's own position is the one below N that names it (R53). -/
  position : s.joined = true →
    ∃ p : Fin 32, s.identity.position = some p ∧ s.ringMap.positionOf s.identity.nodeId.toNat = some p.val

/-- The 64 entries of the table that are not own entries. -/
structure RctSound (s : State) : Prop where
  /-- An unlearned entry holds IDLE, PASS and edition 0 (R61). -/
  unlearned : ∀ i : Fin 64, s.signalling.rct[i].source = none → s.signalling.rct[i] = Entry.unlearned
  /-- Only own entries have the source OWN (R60, R62). -/
  remote : ∀ i : Fin 64, s.signalling.rct[i].source ≠ some .own
  /-- While the part is STANDALONE every entry is unlearned (R61). -/
  standalone : s.joined = false → ∀ i : Fin 64, s.signalling.rct[i] = Entry.unlearned
  /-- Entries for positions at or above N stay unlearned (R61). -/
  inert : ∀ i : Fin 64, s.ringMap.n ≤ i.val / 2 → s.signalling.rct[i] = Entry.unlearned

/-! ### The Loop Engines (R109 to R122) -/

/-- One side's Loop Engine. -/
structure EngineSound (s : State) (x : Side) : Prop where
  /-- The engine is BRIDGED or LOOPED exactly while its target is loop (R112, R115, R116, R120). -/
  target : s.resolver.target.get x = true ↔ ((s.engine.get x).phase = .bridged ∨ (s.engine.get x).phase = .looped)
  /-- The confirm timer runs exactly in BRIDGED and UNLOOPING. -/
  confirm : (s.engine.get x).confirm.isSome ↔ ((s.engine.get x).phase = .bridged ∨ (s.engine.get x).phase = .unlooping)
  /-- PARTNER-SILENT is absent in IDLE (R122). -/
  silent : (s.engine.get x).phase = .idle → (s.engine.get x).silent = false
  /-- While the part is STANDALONE the engine is IDLE (R54). -/
  standalone : s.joined = false → (s.engine.get x).phase = .idle
  /-- An engine that waits in BRIDGED has a partner that is not bridging (R113). -/
  waiting : (s.engine.get x).phase = .bridged → s.partnerAction x = .pass
  /-- An engine that waits in UNLOOPING has a partner that still selects (R118). -/
  releasing : (s.engine.get x).phase = .unlooping → s.partnerAction x = .looped
  /-- A LOOPED engine with PARTNER-SILENT present has had no answer (R117, R122). -/
  unanswered : (s.engine.get x).phase = .looped → (s.engine.get x).silent = true → s.partnerAction x = .pass

/-! ### The Table Store (R135, R137) -/

/-- The connection tables and the size of the Ring Map. -/
structure TablesSound (s : State) : Prop where
  /-- N is at most 32 (R50, R51). -/
  mapSize : s.ringMap.n ≤ 32
  /-- No tributary is the drop of more than one record across the active banks (R137). -/
  active : s.tables.activeDrops.Nodup
  /-- While a commit is pending, the standby banks are those its validation passed (R134, R135, R136). -/
  standby : s.tables.commit.isSome → s.tables.validates = true

/-! ### The queues (R154, R155) -/

/-- The places reserved in a port's transmit queue between events: that of a pending COMMIT, and no other (R136, R157). -/
def State.reservedPlaces (s : State) (q : Port) : Nat :=
  match s.tables.commit with
  | some pc => if pc.port = q then 1 else 0
  | none => 0

/-- The queues. -/
structure QueuesSound (s : State) : Prop where
  /-- A request queue never holds more than 4 cells (R154). -/
  requests : ∀ q : Port, (s.requests.get q).length ≤ Config.requestCapacity
  /-- A transmit queue's occupancy never exceeds 8 (R155). -/
  occupancy : ∀ q : Port, (s.transmit.get q).occupancy ≤ Config.transmitCapacity
  /-- Only a pending COMMIT keeps a place reserved between events (R136, R157). -/
  reserved : ∀ q : Port, (s.transmit.get q).reserved = s.reservedPlaces q

/-! ### The Event Unit (R166 to R172) -/

/-- The Event Unit between events. -/
structure EventsSound (s : State) : Prop where
  /-- Every held value is its live condition's value (R166). -/
  held : s.events.held = liveValues s
  /-- No pulse event waits (R167). -/
  pulses : s.events.pulses = 0#32
  /-- ALERT_N is low exactly while a latch whose alert enable is 1 is set (R172). -/
  alert : s.alertN = false ↔ s.events.latches &&& s.events.alert ≠ 0#32
  /-- The spare position reads 0 in every word, and the fall enables have no pulse events (R169). -/
  masks : s.events.latches &&& ~~~Config.sourceMask = 0#32 ∧ s.events.rise &&& ~~~Config.sourceMask = 0#32 ∧
    s.events.fall &&& ~~~Config.liveMask = 0#32 ∧ s.events.notify &&& ~~~Config.sourceMask = 0#32 ∧
    s.events.alert &&& ~~~Config.sourceMask = 0#32

/-! ### The Profile (R162) -/

/-- The numeric fields of the Profile stay in their ranges. -/
structure ProfileSound (s : State) : Prop where
  holdOffTime : s.profile.holdOffTime ≤ 1000
  settleTime : s.profile.settleTime ≤ 1000
  wtrTime : 1 ≤ s.profile.wtrTime ∧ s.profile.wtrTime ≤ 3600
  confirmTimeout : 2 ≤ s.profile.confirmTimeout ∧ s.profile.confirmTimeout ≤ 500
  responseHop : 1 ≤ s.profile.responseHop ∧ s.profile.responseHop ≤ 31

/-! ### The local frame start and the timers (R1, R2, R137) -/

/-- The Frame Timer. -/
structure TimingSound (s : State) : Prop where
  /-- Once its frames are built, only a pending COMMIT still waits for a local frame start to be taken (R137, R138). -/
  swapTurn : s.instant.begun = false → s.instant.swapTurn = true → s.tables.commit.isSome
  /-- No timer has more to count than the longest duration that its Profile field allows (R2, R26, R39, R90, R121). -/
  holdOff : ∀ x n, (s.monitor.get x).holdOffTimer = some n → n ≤ 100000
  settle : ∀ x n, (s.monitor.get x).settle = some n → n ≤ 100000
  wtr : ∀ x n, (s.condition.get x).wtr = some n → n ≤ 36000000
  confirm : ∀ x n, (s.engine.get x).confirm = some n → n ≤ 50000

/-! ### The whole part -/

/-- While RESET_N is low every block is in its reset state (R1, R6). -/
def ResetHeld (s : State) : Prop :=
  s.resetN = false → s.joined = false ∧ s = resetBlocks s.identity s

/-- The reception of both lines. -/
structure ReceptionSound (s : State) : Prop where
  reset : ResetHeld s
  line : ∀ x, LineSound s x
  monitor : ∀ x, MonitorSound s x

/-- Everything that restoration rests on. -/
structure RestorationSound (s : State) : Prop where
  identity : IdentitySound s
  rct : RctSound s
  condition : ∀ x, ConditionSound s x
  /-- No MANUAL command stands while a learned entry is FADE or higher (R93, R96). -/
  manual : s.learnedTrouble = true → ∀ x, (s.condition.get x).command ≠ .manual
  /-- The Resolver's results are those of the table as it stands (R100). -/
  resolver : s.resolver = s.resolved
  engine : ∀ x, EngineSound s x

/-- A sound state: what every run from reset keeps to. -/
structure Sound (s : State) : Prop where
  reception : ReceptionSound s
  restoration : RestorationSound s
  tables : TablesSound s
  queues : QueuesSound s
  events : EventsSound s
  profile : ProfileSound s
  timing : TimingSound s

/-! ### Terms of the claims: the local frame start -/

/-- Nothing that fell due at the last local frame start is left to be taken (R2, R137). -/
structure NothingDue (s : State) : Prop where
  holdOff : ∀ x, (s.monitor.get x).holdOffTimer ≠ some 0
  settle : ∀ x, (s.monitor.get x).settle ≠ some 0
  wtr : ∀ x, (s.condition.get x).wtr ≠ some 0
  confirm : ∀ x, (s.engine.get x).confirm ≠ some 0
  swap : s.tables.commit = none ∨ s.instant.swapTurn = false

/-- The local frame start at hand is taken as one event: it has been issued, or nothing of the last one is left (log 6). -/
def FrameStartDue (s : State) : Prop :=
  s.instant.begun = true ∨ NothingDue s

/-- The rows of what falls due at a local frame start, in the order in which the next one takes what is left (log 6). -/
def dueRows : List Instr :=
  [.holdOffExpiry .east, .holdOffExpiry .west, .settleMaskExpiry .east, .settleMaskExpiry .west, .wtrExpiry .east,
    .wtrExpiry .west, .confirmTimerExpiry .east, .confirmTimerExpiry .west, .commitSwap]

/-- The state after commands taken one after the other, where each answers a next state. -/
def runRows : List Instr → State → Option State
  | [], s => some s
  | c :: rest, s =>
    match exec c s with
    | .next t => runRows rest t
    | _ => none

/-! ### Terms of the claims: what commands do -/

/-- The turn that is due takes a request of this kind whose data check matches (R157, R159). -/
structure TurnTakes (s : State) (kind : Request) (q : Port) (c : Cell) : Prop where
  high : s.resetN = true
  due : s.nextTurn = some (q, c)
  kind : c.request = kind
  data : c.dataGood = true

/-- The request queues after a turn that takes the head of port q's queue (R157). -/
def State.requestsTaken (s : State) (q : Port) : Ports (List Cell) :=
  s.requests.set q (s.requests.get q).tail

/-- The response of R158 to request c of port q, signed with the node ID in use. -/
def State.response (s : State) (q : Port) (c : Cell) (st : Status) (words : List Word) : Cell :=
  responseCell q c s.profile.responseHop s.identity.nodeId (if c.operation = 8#8 then 8#8 else c.count) st words

/-- A transmit queue with one more cell at its tail (R155). -/
def State.transmitWith (s : State) (q : Port) (c : Cell) : Ports TransmitQueue :=
  s.transmit.set q { s.transmit.get q with cells := (s.transmit.get q).cells ++ [c] }

/-- The state after a turn that takes request c of port q and does nothing but answer it (R157, R158). -/
def State.answered (s : State) (q : Port) (c : Cell) (st : Status) (words : List Word) : State :=
  { s with
    requests := s.requestsTaken q, pointer := nextPort q, transmit := s.transmitWith q (s.response q c st words) }

/-- The Event Unit's enables stay as they stand. -/
def EnablesKept (e f : EventUnit) : Prop :=
  f.rise = e.rise ∧ f.fall = e.fall ∧ f.notify = e.notify ∧ f.alert = e.alert

/-- Held values, latches and ALERT_N at the end of an event, from the Event Unit's registers e before it: `pulses` occurred; t is
the state after (R166 to R169, R172). -/
structure Observed (e : EventUnit) (pulses : Word) (t : State) : Prop where
  /-- Held values follow their live conditions (R166). -/
  held : t.events.held = liveValues t
  /-- Latches are set by enabled rises, falls and occurrences, and none is cleared (R166 to R168). -/
  latches : ∀ i : Fin 32, t.events.latches.getLsbD i =
    (e.latches.getLsbD i || (t.events.held.getLsbD i && !e.held.getLsbD i && e.rise.getLsbD i) ||
      (e.held.getLsbD i && !t.events.held.getLsbD i && e.fall.getLsbD i) || (pulses.getLsbD i && e.rise.getLsbD i))
  enables : EnablesKept e t.events
  /-- ALERT_N is low while a latch whose alert enable is 1 is set (R172). -/
  alert : t.alertN = false ↔ ∃ i : Fin 32, t.events.latches.getLsbD i = true ∧ t.events.alert.getLsbD i = true

/-- The Event Unit's end of an event that is no READ-CLEAR; the rest of the event left the transmit queues as `base` (R166 to
R172). -/
structure Reported (e : EventUnit) (pulses : Word) (base : Ports TransmitQueue) (t : State) : Prop where
  observed : Observed e pulses t
  /-- A latch gone from clear to set with its notify enable 1 prompts one notice, which is written if its queue has a free
  place and the notice-pending flag is clear; where only the place is missing, the flag is set (R170, R171). -/
  notice :
    if t.events.latches &&& ~~~e.latches &&& e.notify ≠ 0#32 ∧ e.pending = false then
      if (base.get t.profile.noticeRoute).occupancy < 8 then
        t.transmit = base.set t.profile.noticeRoute
          { base.get t.profile.noticeRoute with
            cells := (base.get t.profile.noticeRoute).cells ++
              [noticeCell { t with events := { t.events with sequence := e.sequence } }] } ∧
        t.events.sequence = e.sequence + 1#8 ∧ t.events.pending = false
      else t.transmit = base ∧ t.events.sequence = e.sequence ∧ t.events.pending = true
    else t.transmit = base ∧ t.events.sequence = e.sequence ∧ t.events.pending = e.pending

/-- COMMAND-DROPPED occurs in an event that removes a MANUAL command on some side of `sides` (R96). -/
def commandDropped (sides : List Side) (s t : State) : Word :=
  if ∃ x ∈ sides, (s.condition.get x).command = .manual ∧ (t.condition.get x).command = .none then 1#32 <<< 27 else 0#32

/-- The hold-off state and timer of a side after an event that leaves its defect flag as given (R26, R28). -/
def holdOffAfter (s : State) (x : Side) (flag : Bool) : HoldOff × Timer :=
  let m := s.monitor.get x
  if s.joined = false then (.absent, none)
  else if flag = m.flag then (m.holdOff, m.holdOffTimer)
  else if flag = false then (.absent, none)
  else if s.profile.holdOffTime = 0 then (.standing, none)
  else (.holding, some (100 * s.profile.holdOffTime))

/-- The detected condition and WTR timer of a side after an event of its Span Monitor that takes its flag and quality from what
s holds to what t holds: a flag that rises with hold-off time 0 makes it CUT; one that falls ends a CUT in FADE or HOLD; else
quality FADING makes FADE of IDLE and HOLD, and quality GOOD makes HOLD of FADE (R26, R27, R45, R87, R88, R89, R90). -/
def State.detectedAfter (s t : State) (x : Side) : Detected × Timer :=
  let c := s.condition.get x
  let before := s.monitor.get x
  let now := t.monitor.get x
  let wait := (Detected.hold, some (10000 * s.profile.wtrTime))
  if s.joined = true ∧ before.flag = false ∧ now.flag = true ∧ s.profile.holdOffTime = 0 then
    (.cut, if c.detected = .cut then c.wtr else none)
  else if before.flag = true ∧ now.flag = false ∧ c.detected = .cut then
    if now.quality = .fading then (.fade, none) else wait
  else if now.quality = before.quality then (c.detected, c.wtr)
  else if now.quality = .fading ∧ (c.detected = .idle ∨ c.detected = .hold) then (.fade, none)
  else if now.quality = .good ∧ c.detected = .fade then wait
  else (c.detected, c.wtr)

/-- A Span Monitor event of side x moves the detected condition of that side alone. -/
def DetectionFollows (s t : State) (x : Side) : Prop :=
  ((t.condition.get x).detected, (t.condition.get x).wtr) = s.detectedAfter t x ∧
  (t.condition.get x.other).detected = (s.condition.get x.other).detected ∧
  (t.condition.get x.other).wtr = (s.condition.get x.other).wtr

/-- Some defect is present: the value of the defect flag (R25). -/
def Defects.flagged (d : Defects) : Prop :=
  d.los = true ∨ d.lof = true ∨ d.mute = true ∨ d.miswired = true ∨ d.excessive = true

/-- Side x loses its signal between s and t: the receiver enters SEARCH, the buffer is flushed, LOF is present, the settle
mask is cancelled, a departure from ALIGNED is counted, and the detected condition becomes CUT exactly when the hold-off enters
STANDING (R9, R10, R14, R21, R26, R41, R87). -/
structure SignalLost (s t : State) (x : Side) : Prop where
  receiver : t.receiver = s.receiver.set x ⟨.search, 0, none⟩
  buffer : t.buffer = s.buffer.set x ⟨.flushed, [], none⟩
  flag : (t.monitor.get x).flag = true
  holdOff : ((t.monitor.get x).holdOff, (t.monitor.get x).holdOffTimer) = holdOffAfter s x true
  settle : (t.monitor.get x).settle = none
  kept : (t.monitor.get x).muteCount = (s.monitor.get x).muteCount ∧ (t.monitor.get x).density = (s.monitor.get x).density ∧
    (t.monitor.get x).quality = (s.monitor.get x).quality
  other : t.monitor.get x.other = s.monitor.get x.other
  detected : DetectionFollows s t x
  counters : ∀ c : Counter, t.count c =
    if c = .alignmentLosses x ∧ (s.receiver.get x).align = .aligned then advanced (s.count c) 1 else s.count c

/-- The frame that the read of a side's alignment buffer gives at a local frame start (R14 to R16). -/
def State.received (s : State) (x : Side) : LineSlots :=
  match (s.buffer.get x).mode, (s.buffer.get x).frames with
  | .centering, f :: _ :: _ => f
  | .running, f :: _ => f
  | .running, [] => (s.buffer.get x).last.getD LineSlots.void
  | _, _ => LineSlots.void

/-- Working and protection slot k of the frame read on a side, and slot k of the tributary frame read (R3, R19). -/
def State.workingIn (s : State) (x : Side) (k : Fin 32) : Slot := (s.received x).working[k].forwarded
def State.protectionIn (s : State) (x : Side) (k : Fin 32) : Slot := (s.received x).protection[k].forwarded
def State.tributaryIn (s : State) (k : Fin 64) : Slot := (s.holder.getD tributaryVoid)[k].forwarded

/-- Side x's received working slot k as taken, by the squelch results of the same local frame start (R140). -/
def State.taken (s : State) (results : Sides Bits) (x : Side) (k : Fin 32) : Slot :=
  if (s.engine.get x).phase = .looped then
    if (results.get x).getLsbD k then Slot.fill else s.protectionIn x.other k
  else s.workingIn x k

/-- The management field that a transmitter sends for its queue (R5). -/
def TransmitQueue.offered (q : TransmitQueue) : Management :=
  match q.cells with
  | c :: _ => ⟨1#8, c⟩
  | [] => ⟨0#8, Cell.zero⟩

/-- The transmit queues after the three removals of a local frame start (R5, R155). -/
def State.transmitSent (s : State) : Ports TransmitQueue :=
  ⟨{ s.transmit.east with cells := s.transmit.east.cells.tail }, { s.transmit.west with cells := s.transmit.west.cells.tail },
   { s.transmit.tributary with cells := s.transmit.tributary.cells.tail }⟩

/-- The read of a local frame start is a repeat slip on side x (R16). -/
def State.repeats (s : State) (x : Side) : Bool :=
  (s.buffer.get x).mode == .running && (s.buffer.get x).frames.isEmpty

/-- A SLIP of each side for which the test holds (R167). -/
def slipPulses (east west : Bool) : Word :=
  (if east then 1#32 <<< 25 else 0#32) ||| (if west then 1#32 <<< 26 else 0#32)

/-- What the arrival of a cell leaves: the queues, the pulse events and the one counter that advances (R151 to R155). -/
structure Routed where
  requests : Ports (List Cell)
  transmit : Ports TransmitQueue
  pulses : Word
  counted : Option Counter

/-- The cell goes nowhere and is not counted. -/
def State.unrouted (s : State) : Routed :=
  ⟨s.requests, s.transmit, 0#32, none⟩

/-- A transit drop (R153). -/
def State.dropped (s : State) : Routed :=
  ⟨s.requests, s.transmit, 1#32 <<< 30, some .transitDrops⟩

/-- A request joins the queue of its port, or overflows it at 4 (R153, R154). -/
def State.requested (s : State) (q : Port) (c : Cell) : Routed :=
  if (s.requests.get q).length < 4 then ⟨s.requests.set q (s.requests.get q ++ [c]), s.transmit, 0#32, none⟩
  else ⟨s.requests, s.transmit, 1#32 <<< 29, some .requestOverflows⟩

/-- A cell joins a transmit queue with a free place, or is a transit drop (R151, R152, R155). -/
def State.queuedTo (s : State) (q : Port) (c : Cell) : Routed :=
  if (s.transmit.get q).occupancy < 8 then ⟨s.requests, s.transmitWith q c, 0#32, none⟩ else s.dropped

/-- The management field of an aligned frame on side x, by the first step of R151 that applies; a hop limit above 31 is taken as
31, and one of 0 or 1 leaves 0 (R150, R151; log 9). -/
def State.lineRouted (s : State) (x : Side) (m : Management) : Routed :=
  let c := m.cell
  let hop := min c.hop.toNat 31
  if m.flag.getLsbD 0 = false then s.unrouted
  else if c.headerGood = false then { s.unrouted with counted := some (.cellsDiscarded x) }
  else if c.source.toNat = s.identity.nodeId.toNat ∨ c.destination.toNat = 63 then s.unrouted
  else if c.destination.toNat = s.identity.nodeId.toNat then
    if c.kind = kindRequest then s.requested x.port c else s.queuedTo .tributary c
  else if hop ≤ 1 then s.dropped
  else s.queuedTo x.other.port { c with hop := BitVec.ofNat 8 (hop - 1) }

/-- An inbound tributary frame's cell, by the first step of R152 that applies; nothing where the alignment word is bad (R4). -/
def State.tributaryRouted (s : State) (f : TributaryFrame) : Routed :=
  let c := f.management.cell
  let onLine := fun q : Port => if c.hop = 0#8 then s.unrouted else s.queuedTo q c
  if f.alignment ≠ 0x1E7B4D92#32 ∨ f.management.flag.getLsbD 0 = false then s.unrouted
  else if c.headerGood = false then { s.unrouted with counted := some .tributaryCellsDiscarded }
  else if c.destination.toNat = s.identity.nodeId.toNat ∨ c.destination.toNat = 63 then
    if c.kind = kindRequest then s.requested .tributary c else s.unrouted
  else if c.route = 1#8 then onLine .east
  else if c.route = 2#8 then onLine .west
  else s.unrouted

/-- An aligned frame can arrive on side x: RESET_N is high, LOS is not asserted, the receiver is ALIGNED (R7 to R11). -/
def State.receives (s : State) (x : Side) : Bool :=
  s.resetN && !s.losPin.get x && (s.receiver.get x).align == .aligned

/-- An arrival on side x would be a delete slip (R17). -/
def State.deletes (s : State) (x : Side) : Bool :=
  (s.buffer.get x).mode == .running && decide (4 ≤ (s.buffer.get x).frames.length)

/-- The pulse events of a command that takes s to t: the slips, the transit drop and the request overflow of its frames and
cells, COMMIT-DONE of its swap, and COMMAND-DROPPED of a MANUAL that no CLEAR or LEAVE has removed (R16, R17, R96, R137,
R153, R167). -/
def State.pulsesOf (s : State) (c : Instr) (t : State) : Word :=
  match c with
  | .localFrameStart .frames => slipPulses (s.repeats .east) (s.repeats .west)
  | .alignedFrameArrival x f _ =>
    if s.receives x then
      slipPulses (x == .east && s.deletes x) (x == .west && s.deletes x) ||| commandDropped [.east, .west] s t |||
        (s.lineRouted x f.management).pulses
    else 0#32
  | .tributaryFrameArrival f => (s.tributaryRouted f).pulses
  | .commitSwap => if s.tables.commit.isSome && s.instant.swapTurn then 1#32 <<< 28 else 0#32
  | .clearEast => commandDropped [.west] s t
  | .clearWest => commandDropped [.east] s t
  | .leave => 0#32
  | _ => commandDropped [.east, .west] s t

/-- What a command itself leaves of the transmit queues, before any notice: the oldest cells leave at the frames of a local frame
start, an arriving frame adds at most the cell it carries, an Agent turn adds one response or keeps one place reserved, the
swap turns the reserved place into its response, and nothing else touches a queue (R5, R136, R137, R155, R157). -/
def State.QueuesWorked (s : State) (c : Instr) (base : Ports TransmitQueue) : Prop :=
  match c with
  | .localFrameStart .frames => base = s.transmitSent
  | .alignedFrameArrival x f _ => base = s.transmit ∨ base = (s.lineRouted x f.management).transmit
  | .tributaryFrameArrival f => base = (s.tributaryRouted f).transmit
  | .commitSwap =>
    base = s.transmit ∨ ∃ pc answer, s.tables.commit = some pc ∧ answer.kind = kindResponse ∧
      base = s.transmit.set pc.port
        ⟨(s.transmit.get pc.port).cells ++ [answer], (s.transmit.get pc.port).reserved - 1⟩
  | .localFrameStart .issue | .resetNAssert | .resetNRelease _ | .losAssert _ | .losRelease _ | .alignmentWordFound _
  | .presyncWordCheck _ _ | .alignedWordCheck _ _ | .holdOffExpiry _ | .settleMaskExpiry _ | .wtrExpiry _
  | .confirmTimerExpiry _ | .noticeSendAttempt => base = s.transmit
  | _ =>
    base = s.transmit ∨ ∃ q request, s.nextTurn = some (q, request) ∧
      ((∃ answer, answer.kind = kindResponse ∧ base = s.transmitWith q answer) ∨
        base = s.transmit.set q { s.transmit.get q with reserved := (s.transmit.get q).reserved + 1 })

/-- The action of the span end across the span that side x faces, PASS where it is not learned (R61, R111). -/
def State.farAction (s : State) (x : Side) : Action :=
  match s.identity.position with
  | some p =>
    let far := match x with
      | .east => s.entry ((p.val + 1) % s.ringMap.n) .west
      | .west => s.entry ((p.val + s.ringMap.n - 1) % s.ringMap.n) .east
    if far.learned then far.action else .pass
  | none => .pass

/-- A Loop Engine after a table-change notice that takes its target from `old` to `new`, the far end announcing `far` and
`timer` being the confirm timer freshly started: the target change first, then the partner test (R109, R110, R112, R113, R115
to R118, R120, R122; log 25 for PARTNER-SILENT at an answer). -/
def Engine.moved (e : Engine) (old new : Bool) (far : Action) (timer : Timer) : Engine :=
  let looped : Engine := ⟨.looped, none, false⟩
  let idle : Engine := ⟨.idle, none, false⟩
  let answered := far = .bridged ∨ far = .looped
  let released := far = .pass ∨ far = .bridged
  if old = false ∧ new = true ∧ (e.phase = .idle ∨ e.phase = .unlooping) then
    if answered then looped else ⟨.bridged, timer, e.silent⟩
  else if old = true ∧ new = false ∧ e.phase = .bridged then idle
  else if old = true ∧ new = false ∧ e.phase = .looped then
    if released then idle else ⟨.unlooping, timer, e.silent⟩
  else
    match e.phase with
    | .idle => e
    | .bridged => if answered then looped else e
    | .looped => if answered then { e with silent := false } else e
    | .unlooping => if released then idle else e

/-- The words that a WRITE, SET or CLEAR asks for: the data words, or the words held with the mask bits added or removed
(R161). -/
def State.requestedWords (s : State) (k : Request) (c : Cell) : List Word :=
  (List.range c.count.toNat).map fun j =>
    let held := readWord s c.table.toNat (c.index.toNat + j)
    match k with
    | .set => held ||| c.data.toList.getD j 0#32
    | .clear => held &&& ~~~(c.data.toList.getD j 0#32)
    | _ => c.data.toList.getD j 0#32

/-! ### Terms of the claims: what the table words and poll records show (11) -/

/-- A word holds the value v in the field of `width` bits from bit `lo` upward for each (lo, width, v) listed, and 0 in every
other bit (R179). -/
def Holds (w : Word) (fields : List (Nat × Nat × Nat)) : Prop :=
  (∀ f ∈ fields, fieldAt w f.1 f.2.1 = f.2.2) ∧
  ∀ i : Fin 32, (∀ f ∈ fields, i.val < f.1 ∨ f.1 + f.2.1 ≤ i.val) → w.getLsbD i = false

/-- A flag as the value of its bit. -/
def flagCode (b : Bool) : Nat :=
  if b then 1 else 0

/-- The codes of 00 and 11 are the places in these lists. -/
def conditionCode (c : Condition) : Nat :=
  [Condition.idle, .hold, .manual, .fade, .cut, .force, .park].idxOf c
def actionCode (a : Action) : Nat :=
  [Action.pass, .bridged, .looped].idxOf a
def roleCode (r : Role) : Nat :=
  [Role.detached, .isolated, .loopEast, .loopWest, .transit, .drain, .normal].idxOf r
def phaseCode (p : Phase) : Nat :=
  [Phase.idle, .bridged, .looped, .unlooping].idxOf p
def sourceOf (o : Option Source) : Nat :=
  [none, some .own, some (.line .east), some (.line .west)].idxOf o

/-- The number of a position, 0xFF where it is absent. -/
def shownPosition (p : Option (Fin 32)) : Nat :=
  (p.map (·.val)).getD 0xFF

/-- The units of `unit` local frame starts left of a timer, rounded up, and 0 while it is stopped (R90, R128). -/
def unitsLeft (unit : Nat) (t : Timer) : Nat :=
  match t with
  | none => 0
  | some n => if n % unit = 0 then n / unit else n / unit + 1

/-- Table 0 (R49). -/
structure IdentityWordsShown (s : State) : Prop where
  part : Holds (readWord s 0 0) [(16, 16, 0x4810), (8, 8, 0x03), (0, 6, s.identity.strap.toNat)]
  idInUse : (readWord s 0 1).toNat = s.identity.nodeId.toNat
  mode : Holds (readWord s 0 2)
    [(16, 1, flagCode s.joined), (8, 8, roleCode s.resolver.role), (0, 8, shownPosition s.identity.position)]
  restoredSet : readWord s 0 3 = s.resolver.restored

/-- Table 1 (R162). -/
structure ProfileWordsShown (s : State) : Prop where
  weight : Holds (readWord s 1 0) [(16, 16, s.profile.weight.east.toNat), (0, 16, s.profile.weight.west.toNat)]
  tOn : Holds (readWord s 1 1) [(16, 16, s.profile.tOn.east.toNat), (0, 16, s.profile.tOn.west.toNat)]
  tOff : Holds (readWord s 1 2) [(16, 16, s.profile.tOff.east.toNat), (0, 16, s.profile.tOff.west.toNat)]
  tFail : Holds (readWord s 1 3) [(16, 16, s.profile.tFail.east.toNat), (0, 16, s.profile.tFail.west.toNat)]
  delays : Holds (readWord s 1 4) [(16, 16, s.profile.holdOffTime), (0, 16, s.profile.settleTime)]
  waits : Holds (readWord s 1 5) [(16, 16, s.profile.wtrTime), (0, 16, s.profile.confirmTimeout)]
  management : Holds (readWord s 1 6)
    [(24, 8, s.profile.responseHop), (16, 8, s.profile.pollSelector.val), (8, 8, s.profile.noticeDestination.toNat),
      (0, 8, [Port.east, .west, .tributary].idxOf s.profile.noticeRoute + 1)]

/-- Table 2; an empty position reads 63 (R50, R178). -/
structure RingMapWordsShown (s : State) : Prop where
  size : Holds (readWord s 2 0) [(16, 16, s.ringMap.n), (0, 16, s.ringMap.ringId.toNat)]
  entry : ∀ p : Fin 32, (readWord s 2 (p.val + 1)).toNat = ((s.ringMap.ids[p]).map (·.val)).getD 63

/-- Tables 3 to 8: the records of the standby and active banks in the order of their indices; their layout is that of
RecordWordsRoundTrip (R132). -/
structure RecordWordsShown (s : State) : Prop where
  slot : ∀ i : Fin 64, readWord s 3 i.val = slotWord s.tables.slot.standby[i] ∧
    readWord s 4 i.val = slotWord s.tables.slot.active[i]
  extra : ∀ i : Fin 64, readWord s 5 i.val = slotWord s.tables.extra.standby[i] ∧
    readWord s 6 i.val = slotWord s.tables.extra.active[i]
  circuit : ∀ i : Fin 64, readWord s 7 i.val = circuitWord s.tables.circuit.standby[i] ∧
    readWord s 8 i.val = circuitWord s.tables.circuit.active[i]

/-- Table 9; words 64 and 65 show the own entries with the learned and source bits 0 (R60, R85; log 11). -/
structure RctWordsShown (s : State) : Prop where
  entry : ∀ (p : Fin 32) (x : Side),
    let e := s.entry p x
    Holds (readWord s 9 (2 * p.val + x.offset))
      [(31, 1, if e.source = none then 0 else 1), (28, 2, sourceOf e.source), (8, 3, conditionCode e.condition),
        (4, 2, actionCode e.action), (0, 4, e.edition.val)]
  own : ∀ x : Side,
    let o := s.signalling.own.get x
    Holds (readWord s 9 (64 + x.offset))
      [(8, 3, conditionCode o.condition), (4, 2, actionCode o.action), (0, 4, o.edition.val)]

/-- The eight words of side x in table 10 (R44, R99, R128, R148). -/
structure SideWordsShown (s : State) (x : Side) : Prop where
  line : Holds (readWord s 10 (8 * x.offset))
    [(24, 8, [Alignment.search, .presync, .aligned].idxOf (s.receiver.get x).align), (16, 8, (s.receiver.get x).badWords),
      (8, 8, [BufferMode.flushed, .centering, .running].idxOf (s.buffer.get x).mode),
      (0, 8, (s.buffer.get x).frames.length)]
  status :
    let m := s.monitor.get x
    Holds (readWord s 10 (8 * x.offset + 1))
      [(28, 2, [Quality.good, .fading, .excessive].idxOf m.quality),
        (24, 2, [HoldOff.absent, .holding, .standing].idxOf m.holdOff), (16, 4, m.muteCount),
        (10, 1, if m.settle = none then 0 else 1), (9, 1, flagCode (s.engine.get x).silent),
        (8, 1, flagCode (s.signalling.mapMismatch.get x)), (7, 1, flagCode (s.signalling.neighbourStandalone.get x)),
        (5, 1, flagCode m.flag), (4, 1, flagCode m.defects.excessive), (3, 1, flagCode m.defects.miswired),
        (2, 1, flagCode m.defects.mute), (1, 1, flagCode m.defects.lof), (0, 1, flagCode m.defects.los)]
  density : (readWord s 10 (8 * x.offset + 2)).toNat = (s.monitor.get x).density
  rate : (readWord s 10 (8 * x.offset + 3)).toNat = (rateCode (s.monitor.get x).density).toNat
  condition :
    let c := s.condition.get x
    Holds (readWord s 10 (8 * x.offset + 4))
      [(24, 8, match c.detected with
          | .idle => 0
          | .hold => 1
          | .fade => 3
          | .cut => 4),
        (16, 8, match c.command with
          | .none => 0
          | .manual => 2
          | .force => 5),
        (8, 8, conditionCode c.announced), (0, 1, if c.wtr = none then 0 else 1)]
  waiting : (readWord s 10 (8 * x.offset + 5)).toNat = unitsLeft 10000 (s.condition.get x).wtr
  engine :
    let e := s.engine.get x
    Holds (readWord s 10 (8 * x.offset + 6))
      [(24, 8, phaseCode e.phase), (16, 1, flagCode (s.resolver.target.get x)), (15, 1, if e.confirm = none then 0 else 1),
        (0, 10, unitsLeft 100 e.confirm)]
  squelch : readWord s 10 (8 * x.offset + 7) = s.squelch.results.get x

/-- Tables 11 and 12. Word 0 of table 12 has the live conditions in the order of 11's event bits, and 0 for the pulse events
(R166, R169, R173). -/
structure CounterAndEventWordsShown (s : State) : Prop where
  counters : ∀ x : Side,
    readWord s 11 (7 * x.offset) = s.count (.violations x) ∧ readWord s 11 (7 * x.offset + 1) = s.count (.erroredFrames x) ∧
    readWord s 11 (7 * x.offset + 2) = s.count (.alignmentLosses x) ∧ readWord s 11 (7 * x.offset + 3) = s.count (.slips x) ∧
    readWord s 11 (7 * x.offset + 4) = s.count (.vectorsDiscarded x) ∧
    readWord s 11 (7 * x.offset + 5) = s.count (.entriesIgnored x) ∧
    readWord s 11 (7 * x.offset + 6) = s.count (.cellsDiscarded x)
  nodeCounters : readWord s 11 14 = s.count .transitDrops ∧ readWord s 11 15 = s.count .requestOverflows ∧
    readWord s 11 16 = s.count .retries ∧ readWord s 11 17 = s.count .tributaryCellsDiscarded
  live : ∀ x : Side,
    Holds (readWord s 12 0 >>> (9 * x.offset) &&& 0x1FF#32)
      [(0, 1, flagCode (s.monitor.get x).defects.los), (1, 1, flagCode (s.monitor.get x).defects.lof),
        (2, 1, flagCode (s.monitor.get x).defects.mute), (3, 1, flagCode (s.monitor.get x).defects.miswired),
        (4, 1, flagCode (s.monitor.get x).defects.excessive), (5, 1, if (s.monitor.get x).quality = .fading then 1 else 0),
        (6, 1, flagCode (s.engine.get x).silent), (7, 1, flagCode (s.signalling.neighbourStandalone.get x)),
        (8, 1, flagCode (s.signalling.mapMismatch.get x))]
  nodeLive : Holds (readWord s 12 0 >>> 18)
    [(0, 1, if s.resolver.restored = 0#32 then 0 else 1), (1, 1, if s.resolver.role = .isolated then 1 else 0),
      (2, 1, if s.joined = true ∧ s.resolver.role ≠ .normal then 1 else 0),
      (3, 1, if (s.engine.get .east).phase = .idle ∧ (s.engine.get .west).phase = .idle then 0 else 1),
      (4, 1, flagCode s.squelch.squelching), (5, 1, flagCode s.squelch.tableFault),
      (6, 1, if ∃ k : Fin 18, s.counters[k] = 0xFFFFFFFF#32 then 1 else 0)]
  masks : readWord s 12 1 = s.events.latches ∧ readWord s 12 2 = s.events.rise ∧ readWord s 12 3 = s.events.fall ∧
    readWord s 12 4 = s.events.notify ∧ readWord s 12 5 = s.events.alert
  notices : Holds (readWord s 12 6) [(8, 1, flagCode s.events.pending), (0, 8, s.events.sequence.toNat)]

/-- The four poll records (R165); a word that is not listed is 0. The map digest is that of R52, an empty position counting 0. -/
structure PollRecordsShown (s : State) : Prop where
  node : ∃ ids ends conditions flags : Word,
    nodeSummary s = [s.frameCount, ids, s.resolver.restored, ends, conditions, flags] ∧
    Holds ids [(24, 8, s.identity.nodeId.toNat), (16, 8, flagCode s.joined), (8, 8, shownPosition s.identity.position),
      (0, 8, roleCode s.resolver.role)] ∧
    Holds ends [(24, 8, (s.resolver.segment.map (·.1)).getD 0xFF), (16, 8, (s.resolver.segment.map (·.2)).getD 0xFF),
      (8, 1, flagCode s.resolver.ringQuiet), (0, 1, flagCode s.park)] ∧
    Holds conditions [(24, 8, conditionCode (s.condition.get .east).announced), (16, 8, phaseCode (s.engine.get .east).phase),
      (8, 8, conditionCode (s.condition.get .west).announced), (0, 8, phaseCode (s.engine.get .west).phase)] ∧
    Holds flags
      [(16, 16, (s.ringMap.n * 4096 + ((List.finRange 32).map fun p =>
          if p.val < s.ringMap.n then (p.val + 1) * ((s.ringMap.ids[p]).map (·.val)).getD 0 else 0).sum) % 65536),
        (3, 1, if s.tables.commit = none then 0 else 1), (2, 1, flagCode s.tables.retryFlag),
        (1, 1, flagCode s.squelch.squelching), (0, 1, flagCode s.squelch.tableFault)]
  side : ∀ x : Side, sideSummary s x =
    [readWord s 10 (8 * x.offset + 1), readWord s 10 (8 * x.offset + 2), readWord s 10 (8 * x.offset + 3),
      s.count (.violations x), s.count (.erroredFrames x)]
  counters : counterSummary s =
    [s.count .transitDrops, s.count .requestOverflows, s.count .retries, s.count .tributaryCellsDiscarded,
      s.count (.slips .east), s.count (.slips .west), s.count (.alignmentLosses .east), s.count (.alignmentLosses .west)]

/-! ### Terms of the claims: requests, commands and resets -/

/-- A request answered RETRY: the retries counter advances and the retry flag is set, and nothing else changes (R136, R158). -/
structure Retried (s t : State) (q : Port) (c : Cell) : Prop where
  counters : ∀ k : Counter, t.count k = if k = .retries then advanced (s.count k) 1 else s.count k
  reported : Reported s.events 0#32 (s.transmitWith q (s.response q c .retry [])) t
  frame : t = { s with
    requests := s.requestsTaken q, pointer := nextPort q, counters := t.counters, transmit := t.transmit,
    tables := { s.tables with retryFlag := true }, events := t.events, alertN := t.alertN }

/-- The tests of JOIN (R55). -/
structure JoinAccepted (s : State) : Prop where
  mode : s.joined = false
  size : 3 ≤ s.ringMap.n ∧ s.ringMap.n ≤ 32
  filled : ∀ p : Fin 32, p.val < s.ringMap.n → s.ringMap.ids[p] ≠ none
  distinct : ∀ p q : Fin 32, p.val < s.ringMap.n → q.val < s.ringMap.n → s.ringMap.ids[p] = s.ringMap.ids[q] → p = q
  named : ∃ p : Fin 32, p.val < s.ringMap.n ∧ ∃ id : Fin 63, s.ringMap.ids[p] = some id ∧ id.val = s.identity.nodeId.toNat

/-- When each command is accepted (R163). -/
def Accepted (s : State) : CommandCode → Prop
  | .forceEast | .forceWest =>
    s.joined = true ∧ ∀ p : Fin 32, ∀ x, (s.entry p x).learned = true → (s.entry p x).condition ≠ .park
  | .manualEast | .manualWest =>
    s.joined = true ∧ ∀ p : Fin 32, ∀ x, (s.entry p x).learned = true → (s.entry p x).condition.code < Condition.fade.code
  | .park | .clearPark | .clearEast | .clearWest => s.joined = true
  | .join => JoinAccepted s
  | .leave => s.joined = true ∧ ∀ x, (s.engine.get x).phase = .idle
  | .restart => True

/-- The line frame sent on a side. -/
def SentFrames.line (f : SentFrames) : Side → LineFrame
  | .east => f.east
  | .west => f.west

/-- The frame that a transmitter sends on a side while RESET_N is low (R6). -/
def resetLineFrame (parity : Word) (check : Half) : LineFrame :=
  { alignment := 0x1E7B4D92#32
    parity := parity
    vector :=
      { state := 0x01#8, sender := 0x3F#8, ringId := 0#16, digest := 0#16, entries := Vector.replicate 64 0#16,
        check := check }
    management := ⟨0#8, Cell.zero⟩
    slots := ⟨Vector.replicate 32 Slot.fill, Vector.replicate 32 Slot.fill⟩ }

/-- t is the power-on reset state of every block; the LOS pins, the parity of the last frames sent (log 12), the frames being
sent (log 13) and the waiting commands are those of s, and a local frame start that s has issued still has its frames built
(log 6) and may be taken by the Table Store (log 28). -/
structure PowerOn (s t : State) : Prop where
  /-- R1. -/
  frameCount : t.frameCount = 0#32
  /-- R7, R13. -/
  receiver : ∀ x, t.receiver.get x = ⟨.search, 0, none⟩
  /-- R14. -/
  buffer : ∀ x, t.buffer.get x = ⟨.flushed, [], none⟩
  /-- R4. -/
  holder : t.holder = none
  /-- R42. -/
  monitor : ∀ x, t.monitor.get x =
    { defects := { los := s.losPin.get x, lof := true, mute := false, miswired := false, excessive := false },
      flag := true, muteCount := 0, holdOff := .absent, holdOffTimer := none, density := 0, quality := .good,
      settle := none }
  /-- R86, R92, R98. -/
  condition : ∀ x, t.condition.get x = ⟨.idle, none, .none, .idle⟩
  park : t.park = false
  /-- R82. -/
  rct : ∀ i : Fin 64, t.signalling.rct[i] = ⟨.idle, .pass, 0, none⟩
  own : ∀ x, t.signalling.own.get x = ⟨.idle, .pass, 0⟩
  neighbour : ∀ x, t.signalling.neighbourStandalone.get x = false ∧ t.signalling.mapMismatch.get x = false
  /-- 05, the Resolver's opening table. -/
  resolver : t.resolver = ⟨0#32, none, true, .detached, ⟨false, false⟩⟩
  /-- R127. -/
  engine : ∀ x, t.engine.get x = ⟨.idle, none, false⟩
  /-- R54. -/
  mode : t.identity.joined = false ∧ t.identity.position = none
  /-- R50. -/
  ringMap : t.ringMap.n = 0 ∧ t.ringMap.ringId = 0#16 ∧ ∀ p : Fin 32, t.ringMap.ids[p] = none
  /-- R162. -/
  profile : t.profile =
    { weight := ⟨64#16, 64#16⟩, tOn := ⟨0x0419#16, 0x0419#16⟩, tOff := ⟨0x0069#16, 0x0069#16⟩,
      tFail := ⟨0x9000#16, 0x9000#16⟩, holdOffTime := 0, settleTime := 100, wtrTime := 300, confirmTimeout := 50,
      responseHop := 31, pollSelector := 0, noticeDestination := 63#6, noticeRoute := .tributary }
  /-- R132, R136. -/
  banks : ∀ i : Fin 64,
    t.tables.slot.standby[i] = ⟨.void, none⟩ ∧ t.tables.slot.active[i] = ⟨.void, none⟩ ∧
    t.tables.extra.standby[i] = ⟨.void, none⟩ ∧ t.tables.extra.active[i] = ⟨.void, none⟩ ∧
    t.tables.circuit.standby[i] = none ∧ t.tables.circuit.active[i] = none
  commit : t.tables.commit = none ∧ t.tables.retryFlag = false
  /-- 07, opening table. -/
  squelch : t.squelch = ⟨⟨0#32, 0#32⟩, false, false⟩
  /-- R154, R155, R157. -/
  queues : ∀ q, t.requests.get q = [] ∧ t.transmit.get q = ⟨[], 0⟩
  pointer : t.pointer = .east
  /-- R166, R168 to R171. -/
  held : ∀ i : Fin 32, t.events.held.getLsbD i =
    (i.val == 1 || i.val == 10 || (i.val == 0 && s.losPin.east) || (i.val == 9 && s.losPin.west))
  events : t.events.latches = 0#32 ∧ t.events.rise = 0x7FFFFFFF#32 ∧ t.events.fall = 0x01FFFFFF#32 ∧
    t.events.notify = 0#32 ∧ t.events.alert = 0#32 ∧ t.events.pending = false ∧ t.events.sequence = 0#8
  /-- R173. -/
  counters : ∀ k : Fin 18, t.counters[k] = 0#32
  /-- R172. -/
  alertN : t.alertN = true
  kept : t.losPin = s.losPin ∧ t.sentParity = s.sentParity ∧ t.sent = s.sent ∧ t.pending = s.pending
  /-- R1: the issue of local frame starts is not interrupted (log 6); the Table Store may take the one at hand
  (log 28). -/
  instant : t.instant = ⟨s.instant.begun, s.instant.begun⟩

end Machine

end Sys2Proof
end

