-- ==== Sys2Proof/Certificates/Slice0/Obligations.lean ====
section
/-! DEFINITION. The statements about the model, in the order of OBLIGATIONS.json: the step, the invariants, resets, the local
frame start, the lines, the timers, the Agent, the commands, what holds of every event, and the Resolver's and the Span
Monitor's computations. The terms they use beyond the model's own stand in Safety. -/

open Sys2Proof Sys2Proof.Machine

/-! ### The step -/

/-- A step takes the command at the front of the queue; on an empty queue the block idles (log 3). -/
def Obligations.StepTakesFrontCommand : Prop :=
  ∀ (s : State) (c : Instr) (rest : List Instr),
    (s.pending = c :: rest → step s = exec c { s with pending := rest }) ∧ (s.pending = [] → step s = .next s)

/-- Every command answers a next state in every state, and leaves the queue of waiting commands as it stands. That one whose event
cannot happen answers a next state too is the model's choice (log 1), and the queue is the model's own (log 2). -/
def Obligations.EveryCommandAnswersAState : Prop :=
  ∀ (s : State) (c : Instr), ∃ t, exec c s = .next t ∧ t.pending = s.pending

/-! ### Invariants -/

/-- The state after reset meets every invariant and holds every block's power-on values. -/
def Obligations.ResetStateIsSound : Prop :=
  Sound State.reset ∧ PowerOn State.reset State.reset ∧ State.reset.resetN = true

/-- Every step keeps the invariant of the receivers, buffers and Span Monitors (R7 to R28). -/
def Obligations.StepKeepsReceptionSound : Prop :=
  ∀ s t : State, ReceptionSound s → step s = .next t → ReceptionSound t

/-- Every step keeps the invariant of the conditions, table, Resolver and Loop Engines (R53 to R122). -/
def Obligations.StepKeepsRestorationSound : Prop :=
  ∀ s t : State, RestorationSound s → step s = .next t → RestorationSound t

/-- Every step keeps the connection tables, the queues and the Profile within their bounds, and with the Profile the timers and the
local frame start at hand (R2, R51, R135 to R138, R154, R155, R162). -/
def Obligations.StepKeepsStoresSound : Prop :=
  ∀ s t : State, step s = .next t →
    (TablesSound s → TablesSound t) ∧ (QueuesSound s → QueuesSound t) ∧ (ProfileSound s → ProfileSound t) ∧
    (ProfileSound s → TimingSound s → TimingSound t)

/-- Every step keeps the Event Unit's invariant: held values, ALERT_N and the stored positions (R166, R169, R172). -/
def Obligations.StepKeepsEventsSound : Prop :=
  ∀ s t : State, EventsSound s → step s = .next t → EventsSound t

/-! ### Resets -/

/-- The rising edge of RESET_N, its assertion and an accepted RESTART each leave every block in its power-on state; the first
and the last sample the straps, and RESTART produces no response (R6, R46, R47, R164, R175; log 5 for the assertion, log 12 for the
parity of the last frames sent, log 13 for the record of the frames sent, log 6 for a local frame start already
issued, log 28 for the Table Store's turn at it). -/
def Obligations.ResetsArePowerOn : Prop :=
  ∀ (s : State) (straps : BitVec 6) (q : Port) (c : Cell),
    (s.resetN = false → ∃ t, exec (.resetNRelease straps) s = .next t ∧ PowerOn s t ∧ t.resetN = true ∧
      t.identity = ⟨straps, straps, false, none⟩) ∧
    (s.resetN = true → ∃ t, exec .resetNAssert s = .next t ∧ PowerOn s t ∧ t.resetN = false ∧
      t.identity = ⟨s.identity.strap, s.identity.nodeId, false, none⟩) ∧
    (TurnTakes s (.command .restart) q c → ∃ t, exec (.restart straps) s = .next t ∧ PowerOn s t ∧ t.resetN = true ∧
      t.identity = ⟨straps, straps, false, none⟩)

/-- While RESET_N is low, the frames of a local frame start are the reset frames of R6 and nothing else changes; a LOS pin moves
only the LOS defect and its own held value; every other command but the rising edge changes nothing (R1, R4, R6, R20, R166; log 1,
log 12 for the parity held, log 6 for the local frame start at hand). -/
def Obligations.LowResetHoldsEveryBlock : Prop :=
  ∀ (s : State) (c : Instr) (x : Side), s.resetN = false → EventsSound s →
    let place : Word := 1#32 <<< (match x with
      | .east => 0
      | .west => 9)
    let losTakes := fun v : Bool => { s with
      losPin := s.losPin.set x v
      monitor := s.monitor.set x { s.monitor.get x with defects := { (s.monitor.get x).defects with los := v } }
      events := { s.events with held := (s.events.held &&& ~~~place) ||| (if v then place else 0#32) } }
    (∃ check, exec (.localFrameStart .frames) s = .next
      { s with
        sent := some ⟨resetLineFrame s.sentParity.east check, resetLineFrame s.sentParity.west check,
          ⟨0x1E7B4D92#32, ⟨0#8, Cell.zero⟩, Vector.replicate 64 Slot.fill⟩⟩
        sentParity := ⟨0#32, 0#32⟩, instant := ⟨false, false⟩ } ∧
      vectorGood (resetLineFrame s.sentParity.east check).vector = true) ∧
    exec (.losAssert x) s = .next (if s.losPin.get x then s else losTakes true) ∧
    exec (.losRelease x) s = .next (if s.losPin.get x then losTakes false else s) ∧
    ((∀ straps, c ≠ .resetNRelease straps) → c ≠ .localFrameStart .frames → (∀ y, c ≠ .losAssert y ∧ c ≠ .losRelease y) →
      exec c s = .next s)

/-! ### The local frame start -/

/-- The issue of a local frame start advances the frame count and counts every running timer, and the frames that follow it count
nothing; nothing outside the fields named changes. What fell due at one local frame start is taken, each by its own row, before
the next is issued, so none is left then (R1, R2, R137; log 6). -/
def Obligations.FrameStartCountsTimers : Prop :=
  (∀ (s : State) (part : FrameStartPart), s.resetN = true → FrameStartDue s →
    let issued := s.instant.begun
    let turn := if issued then s.instant.swapTurn else true
    let count : Timer → Timer := Option.map (if issued then id else (· - 1))
    ∃ t, exec (.localFrameStart part) s = .next t ∧
      t.frameCount = (if issued then s.frameCount else s.frameCount + 1#32) ∧
      t.instant = (match part with
        | .issue => ⟨true, turn⟩
        | .frames => ⟨false, turn && s.tables.commit.isSome⟩) ∧
      (∀ x, t.monitor.get x =
        { s.monitor.get x with
          holdOffTimer := count (s.monitor.get x).holdOffTimer, settle := count (s.monitor.get x).settle }) ∧
      (∀ x, t.condition.get x = { s.condition.get x with wtr := count (s.condition.get x).wtr }) ∧
      (∀ x, t.engine.get x = { s.engine.get x with confirm := count (s.engine.get x).confirm }) ∧
      (part = .issue → t = { s with
        frameCount := t.frameCount, instant := t.instant, monitor := t.monitor, condition := t.condition, engine := t.engine,
        transmit := t.transmit, events := t.events, alertN := t.alertN }) ∧
      t = { s with
        frameCount := t.frameCount, instant := t.instant, monitor := t.monitor, condition := t.condition, engine := t.engine,
        buffer := t.buffer, holder := t.holder, squelch := t.squelch, sent := t.sent, sentParity := t.sentParity,
        transmit := t.transmit, counters := t.counters, events := t.events, alertN := t.alertN }) ∧
  ∀ (s : State) (part : FrameStartPart), Sound s → s.resetN = true → s.instant.begun = false →
    ∃ t, runRows dueRows s = some t ∧ NothingDue t ∧ t.instant.begun = false ∧
      exec (.localFrameStart part) s = exec (.localFrameStart part) t

/-- At a local frame start each transmitter sends the alignment word, the parity held, the one vector built and its oldest
cell; the oldest cells leave, and each held parity becomes that of the frame being sent (R5, R65, R155; R171 for the send
attempts, log 16; log 12 for the instant at which the held parity changes). -/
def Obligations.FrameStartSendsFrames : Prop :=
  ∀ s : State, s.resetN = true → FrameStartDue s → EventsSound s →
    ∃ t, exec (.localFrameStart .frames) s = .next t ∧
      (∃ f, t.sent = some f ∧
        (∀ x, (f.line x).alignment = 0x1E7B4D92#32 ∧ (f.line x).parity = s.sentParity.get x ∧
          (f.line x).vector = buildVector s ∧ (f.line x).management = (s.transmit.get x.port).offered ∧
          t.sentParity.get x = laneParity (f.line x).slots) ∧
        f.tributary.alignment = 0x1E7B4D92#32 ∧ f.tributary.management = s.transmit.tributary.offered) ∧
      Reported s.events (slipPulses (s.repeats .east) (s.repeats .west)) s.transmitSent t ∧
      (s.events.pending = true → t.events.attempts = s.events.attempts +
        [s.transmit.east, s.transmit.west, s.transmit.tributary].countP fun q => decide (q.cells ≠ []))

/-- The vector built carries the header of R65 and, for each span end in the order of R60, the entry as the table holds it
with its known bit, or IDLE, PASS, edition 0 with the known bit 0; while STANDALONE every known bit is 0 (R65, R66). -/
def Obligations.VectorCarriesTheTable : Prop :=
  ∀ s : State,
    (buildVector s).state = (if s.joined then 0x02#8 else 0x01#8) ∧
    (buildVector s).sender.toNat = s.identity.nodeId.toNat ∧ (buildVector s).ringId = s.ringMap.ringId ∧
    (buildVector s).digest = s.ringMap.digest ∧ (buildVector s).check = checkOf (buildVector s).bytes ∧
    ∀ (p : Fin 32) (x : Side) (i : Fin 64), i.val = 2 * p.val + x.offset →
      let e := s.entry p x
      let h := (buildVector s).entries[i]
      if s.joined = true ∧ e.learned = true ∧ p.val < s.ringMap.n then
        entryKnown h = true ∧ entryCondition h = some e.condition ∧ entryAction h = some e.action ∧ entryEdition h = e.edition
      else h = 0#16

/-- What the reads of a local frame start leave of the buffers and the holder, with the repeat slips counted; no other counter
moves (R14 to R16, R19). FrameStartCountsTimers says what is taken first where something of the last local frame start is left
(log 6). -/
def Obligations.FrameStartReadsBuffers : Prop :=
  ∀ s : State, s.resetN = true → FrameStartDue s →
    ∃ t, exec (.localFrameStart .frames) s = .next t ∧ t.holder = none ∧
      (∀ x, t.buffer.get x =
        match (s.buffer.get x).mode, (s.buffer.get x).frames with
        | .centering, f :: g :: rest => ⟨.running, g :: rest, some f⟩
        | .running, f :: rest => ⟨.running, rest, some f⟩
        | _, _ => s.buffer.get x) ∧
      ∀ k : Counter, t.count k =
        match k with
        | .slips x => if s.repeats x then advanced (s.count k) 1 else s.count k
        | _ => s.count k

/-- Outgoing working slot k of side x is what its active Slot Map record names, THROUGH taking the other side's slot as R140
gives; outgoing protection slot k of side x follows by the first test of R142 that holds (R123, R129, R140, R142, R143).
FrameStartCountsTimers says what is taken first where something of the last local frame start is left. -/
def Obligations.LineSlotsSent : Prop :=
  ∀ s : State, s.resetN = true → FrameStartDue s →
    ∃ t, exec (.localFrameStart .frames) s = .next t ∧ ∃ f, t.sent = some f ∧
      ∀ (x : Side) (k : Fin 32),
        (f.line x).slots.working[k] =
          (match (s.slotRecord x k).source with
          | .void => Slot.fill
          | .through => s.taken t.squelch.results x.other k
          | .add u => s.tributaryIn u) ∧
        (f.line x).slots.protection[k] =
          if (s.engine.get x.other).phase ≠ .idle then
            if (t.squelch.results.get x.other).getLsbD k then Slot.fill else (f.line x.other).slots.working[k]
          else if (s.engine.get x).phase ≠ .idle then Slot.fill
          else if s.resolver.role = .normal then
            match (s.extraRecord x k).source with
            | .void => Slot.fill
            | .through => s.protectionIn x.other k
            | .add u => s.tributaryIn u
          else s.protectionIn x.other k

/-- Tributary-out slot u is formed from the one active record that names it as its drop, and is VOID where none does (R141).
FrameStartCountsTimers says what is taken first where something of the last local frame start is left. -/
def Obligations.TributarySlotsSent : Prop :=
  ∀ (s : State) (u : Fin 64), s.resetN = true → FrameStartDue s → s.tables.activeDrops.Nodup →
    ∃ t, exec (.localFrameStart .frames) s = .next t ∧ ∃ f, t.sent = some f ∧
      (∀ (x : Side) (k : Fin 32), (s.slotRecord x k).drop = some u →
        f.tributary.slots[u] = s.taken t.squelch.results x.other k) ∧
      (∀ (x : Side) (k : Fin 32), (s.extraRecord x k).drop = some u →
        f.tributary.slots[u] = if s.resolver.role = .normal then s.protectionIn x.other k else Slot.fill) ∧
      ((∀ (x : Side) (k : Fin 32), (s.slotRecord x k).drop ≠ some u ∧ (s.extraRecord x k).drop ≠ some u) →
        f.tributary.slots[u] = Slot.fill)

/-- The squelch results of a local frame start, with SQUELCHING and TABLE-FAULT (R144, R146). FrameStartCountsTimers says what is
taken first where something of the last local frame start is left. -/
def Obligations.SquelchResultsFormed : Prop :=
  ∀ s : State, s.resetN = true → FrameStartDue s →
    ∃ t, exec (.localFrameStart .frames) s = .next t ∧
      (∀ (x : Side) (k : Fin 32), (t.squelch.results.get x).getLsbD k = true ↔
        (s.engine.get x).phase ≠ .idle ∧ (s.circuitOf x k = none ∨ ∃ c, s.circuitOf x k = some c ∧
          (c.restore = false ∨ s.ringMap.positionOf c.origin = none ∨ s.ringMap.positionOf c.terminus = none ∨
            s.inOwnSegment c.origin = false ∨ s.inOwnSegment c.terminus = false))) ∧
      (t.squelch.squelching = true ↔ ∃ (x : Side) (k : Fin 32), (t.squelch.results.get x).getLsbD k = true) ∧
      (t.squelch.tableFault = true ↔ ∃ (x : Side) (k : Fin 32), (s.engine.get x).phase ≠ .idle ∧
        ∃ c, s.circuitOf x k = some c ∧
          (s.ringMap.positionOf c.origin = none ∨ s.ringMap.positionOf c.terminus = none))

/-- Lane j of the parity word, lane 0 its most significant bit, is the exclusive-or of the payload bits numbered j mod 32 in
transmission order, and the parity word sent in a line frame is that of the payload of the frame sent before it on the same
port (R5, R12). -/
def Obligations.ParityWordHoldsLaneParities : Prop :=
  (∀ (f : LineSlots) (j : Fin 32), (laneParity f).getMsbD j =
    ((List.finRange 64).flatMap fun slot =>
      (List.range 304).map fun g => (f.payloadOf slot).getMsbD (32 * g + j.val)).foldl xor false) ∧
  ∀ s t : State, s.resetN = true → exec (.localFrameStart .frames) s = .next t →
    ∃ u f g, exec (.localFrameStart .frames) t = .next u ∧ t.sent = some f ∧ u.sent = some g ∧
      ∀ x, (g.line x).parity = laneParity (f.line x).slots

/-- The swap of a pending COMMIT, taken at a local frame start and at no other time: the three standby banks become active and
stay as standby, the flag is cleared, DONE is written into the reserved place, COMMIT-DONE is raised, and nothing else changes
(R137, R158; log 6 for the turn of the Table Store at a local frame start, log 10). -/
def Obligations.CommitSwapActivatesStandby : Prop :=
  ∀ (s : State) (pc : PendingCommit), s.resetN = true → EventsSound s → s.tables.commit = some pc →
    (s.instant.swapTurn = false → exec .commitSwap s = .next s) ∧
    (s.instant.swapTurn = true → ∃ t, exec .commitSwap s = .next t ∧
      t.tables = ⟨⟨s.tables.slot.standby, s.tables.slot.standby⟩, ⟨s.tables.extra.standby, s.tables.extra.standby⟩,
        ⟨s.tables.circuit.standby, s.tables.circuit.standby⟩, none, s.tables.retryFlag⟩ ∧
      Reported s.events (1#32 <<< 28)
        (s.transmit.set pc.port
          { cells := (s.transmit.get pc.port).cells ++
              [responseCell pc.port pc.request s.profile.responseHop pc.sourceId pc.request.count .done []]
            reserved := (s.transmit.get pc.port).reserved - 1 }) t ∧
      t.instant = { s.instant with swapTurn := false } ∧
      t = { s with
        tables := t.tables, instant := t.instant, transmit := t.transmit, events := t.events, alertN := t.alertN })

/-! ### The lines -/

/-- LOS goes high: whatever the receiver's state it is in SEARCH, and LOS and LOF are present. A fourth consecutive bad alignment
word in ALIGNED leaves it in SEARCH with LOF present. In both the defect flag and the hold-off follow, the detected condition
becomes CUT with its WTR timer cancelled exactly when the hold-off enters STANDING (so it stands with a hold-off time above 0,
and while STANDALONE), and nothing outside the fields named changes (R9, R10, R14, R20, R21, R25 to R28, R87). What the own
entries, the Resolver and the engines then are, StepKeepsRestorationSound, EditionsCountContentChanges and EnginesFollowTheTable
say. -/
def Obligations.LostSignalIsTaken : Prop :=
  ∀ (s : State) (x : Side), s.resetN = true → EventsSound s → s.losPin.get x = false → MonitorSound s x →
    let restorationOnly := fun t : State => t = { s with
      losPin := t.losPin, receiver := t.receiver, buffer := t.buffer, monitor := t.monitor, condition := t.condition,
      signalling := { s.signalling with own := t.signalling.own }, resolver := t.resolver, engine := t.engine,
      counters := t.counters, transmit := t.transmit, events := t.events, alertN := t.alertN }
    (LineSound s x → ∃ t, exec (.losAssert x) s = .next t ∧ t.losPin = s.losPin.set x true ∧ SignalLost s t x ∧
      (t.monitor.get x).defects = { (s.monitor.get x).defects with los := true, lof := true } ∧
      Reported s.events (commandDropped [.east, .west] s t) s.transmit t ∧ restorationOnly t) ∧
    ∀ w : Word, (s.receiver.get x).align = .aligned → w ≠ 0x1E7B4D92#32 → (s.receiver.get x).badWords = 3 →
      ∃ t, exec (.alignedWordCheck x w) s = .next t ∧ t.losPin = s.losPin ∧ SignalLost s t x ∧
        (t.monitor.get x).defects = { (s.monitor.get x).defects with lof := true } ∧
        Reported s.events (commandDropped [.east, .west] s t) s.transmit t ∧ restorationOnly t

/-- The whole path from a lost signal to restoration: at a JOINED part with hold-off time 0 and no learned PARK, a side whose
defect flag is absent loses its signal and in that one event becomes CUT, announces it, has its span in R, and its engine
bridges (R10, R20, R25 to R27, R87, R98, R63, R102, R106, R112). -/
def Obligations.LossOfSignalRestores : Prop :=
  ∀ (s : State) (x : Side) (p : Fin 32), Sound s → s.resetN = true → s.joined = true → s.identity.position = some p →
    s.losPin.get x = false → (s.monitor.get x).flag = false → s.profile.holdOffTime = 0 → s.learnedPark = false →
    ∃ t, exec (.losAssert x) s = .next t ∧
      (t.monitor.get x).holdOff = .standing ∧
      (t.condition.get x).detected = .cut ∧ (t.condition.get x).wtr = none ∧
      ((t.condition.get x).announced = .cut ∨ (t.condition.get x).announced = .force) ∧
      (t.signalling.own.get x).condition = (t.condition.get x).announced ∧
      t.resolver.restored.getLsbD (spanFaced s.ringMap.n p x) = true ∧ t.resolver.target.get x = true ∧
      ((t.engine.get x).phase = .bridged ∨ (t.engine.get x).phase = .looped) ∧
      (t.signalling.own.get x).action = (t.engine.get x).phase.action ∧
      t.resolver.role ≠ .normal ∧ t.events.held.getLsbD 18 = true

/-- What the searching and checking receiver does where no frame is lost: a found pattern enters PRESYNC, a bad word in PRESYNC
returns to SEARCH, a good word in ALIGNED clears the bad-word count, a bad one short of the fourth adds one, and nothing else
changes; a LOS pin that goes low makes LOS absent and leaves the receiver in SEARCH (R7 to R10, R20). -/
def Obligations.ReceiverTransitions : Prop :=
  ∀ (s : State) (x : Side) (w : Word), s.resetN = true → EventsSound s →
    (s.losPin.get x = false → (s.receiver.get x).align = .search →
      exec (.alignmentWordFound x) s =
        .next { s with receiver := s.receiver.set x { s.receiver.get x with align := .presync } }) ∧
    (s.losPin.get x = false → (s.receiver.get x).align = .presync → w ≠ 0x1E7B4D92#32 →
      exec (.presyncWordCheck x w) s =
        .next { s with receiver := s.receiver.set x { s.receiver.get x with align := .search } }) ∧
    (s.losPin.get x = false → (s.receiver.get x).align = .aligned → w = 0x1E7B4D92#32 →
      exec (.alignedWordCheck x w) s =
        .next { s with receiver := s.receiver.set x { s.receiver.get x with badWords := 0 } }) ∧
    (s.losPin.get x = false → (s.receiver.get x).align = .aligned → w ≠ 0x1E7B4D92#32 → (s.receiver.get x).badWords < 3 →
      exec (.alignedWordCheck x w) s =
        .next { s with
          receiver := s.receiver.set x { s.receiver.get x with badWords := (s.receiver.get x).badWords + 1 } }) ∧
    (s.losPin.get x = true → LineSound s x → MonitorSound s x →
      ∃ t, exec (.losRelease x) s = .next t ∧
        t.monitor = s.monitor.set x
          { s.monitor.get x with defects := { (s.monitor.get x).defects with los := false } } ∧
        Reported s.events 0#32 s.transmit t ∧
        t = { s with
          losPin := s.losPin.set x false, monitor := t.monitor, transmit := t.transmit, events := t.events,
          alertN := t.alertN })

/-- A good word in PRESYNC enters ALIGNED: the buffer centers, d is 0, quality is GOOD, the settle mask starts, LOF is absent,
and the hold-off, the detected condition and its WTR timer follow the reports. With a settle mask time of 0 the mask expires
in the same event and quality is evaluated at once (R8, R14, R39, R27, R88, R89, R90; log 8). -/
def Obligations.EntryToAligned : Prop :=
  ∀ (s : State) (x : Side) (w : Word), s.resetN = true → EventsSound s → s.losPin.get x = false →
    (s.receiver.get x).align = .presync → w = 0x1E7B4D92#32 → MonitorSound s x → ConditionSound s x →
    ∃ t, exec (.presyncWordCheck x w) s = .next t ∧
      t.receiver = s.receiver.set x ⟨.aligned, 0, none⟩ ∧ t.buffer = s.buffer.set x ⟨.centering, [], none⟩ ∧
      (t.monitor.get x).density = 0 ∧ (t.monitor.get x).muteCount = (s.monitor.get x).muteCount ∧
      (t.monitor.get x).settle = (if s.profile.settleTime = 0 then none else some (100 * s.profile.settleTime)) ∧
      (t.monitor.get x).quality =
        (if s.profile.settleTime = 0 then
          evaluateQuality (s.profile.tOn.get x) (s.profile.tOff.get x) (s.profile.tFail.get x) .good 0
        else .good) ∧
      (t.monitor.get x).defects =
        { (s.monitor.get x).defects with lof := false, excessive := (t.monitor.get x).quality == .excessive } ∧
      ((t.monitor.get x).flag = true ↔ (t.monitor.get x).defects.flagged) ∧
      ((t.monitor.get x).holdOff, (t.monitor.get x).holdOffTimer) = holdOffAfter s x (t.monitor.get x).flag ∧
      t.monitor.get x.other = s.monitor.get x.other ∧
      ((t.condition.get x).detected, (t.condition.get x).wtr) =
        (if (t.monitor.get x).quality = .fading ∧
            ((t.monitor.get x).flag = false ∨ (s.condition.get x).detected ≠ .cut) then (.fade, none)
        else if ((t.monitor.get x).flag = false ∧ (s.condition.get x).detected = .cut) ∨
            ((s.monitor.get x).quality ≠ .good ∧ (s.condition.get x).detected = .fade) then
          (.hold, some (10000 * s.profile.wtrTime))
        else ((s.condition.get x).detected, (s.condition.get x).wtr)) ∧
      (t.condition.get x.other).detected = (s.condition.get x.other).detected ∧
      (t.condition.get x.other).wtr = (s.condition.get x.other).wtr ∧
      Reported s.events (commandDropped [.east, .west] s t) s.transmit t ∧
      t = { s with
        receiver := t.receiver, buffer := t.buffer, monitor := t.monitor, condition := t.condition,
        signalling := { s.signalling with own := t.signalling.own }, resolver := t.resolver, engine := t.engine,
        transmit := t.transmit, events := t.events, alertN := t.alertN }

/-- An aligned frame's slots join the buffer, at 4 held in place of the oldest, which in RUNNING is a delete slip; its lane
parity is held; nothing outside the fields named changes (R11, R13, R14, R15, R17). -/
def Obligations.ArrivingFrameIsStored : Prop :=
  ∀ (s : State) (x : Side) (f : LineFrame) (o : ArrivalOrder), s.resetN = true → s.losPin.get x = false →
    (s.receiver.get x).align = .aligned → LineSound s x →
    ∃ t, exec (.alignedFrameArrival x f o) s = .next t ∧
      t.receiver = s.receiver.set x { s.receiver.get x with heldParity := some (laneParity f.slots) } ∧
      t.buffer = s.buffer.set x
        { s.buffer.get x with
          frames := (if (s.buffer.get x).frames.length < 4 then (s.buffer.get x).frames
            else (s.buffer.get x).frames.tail) ++ [f.slots] } ∧
      (∀ y, t.count (.slips y) =
        if y = x ∧ (s.buffer.get x).mode = .running ∧ (s.buffer.get x).frames.length = 4 then
          advanced (s.count (.slips y)) 1
        else s.count (.slips y)) ∧
      t = { s with
        receiver := t.receiver, buffer := t.buffer, monitor := t.monitor, condition := t.condition,
        signalling := t.signalling, resolver := t.resolver, engine := t.engine, requests := t.requests,
        transmit := t.transmit, counters := t.counters, events := t.events, alertN := t.alertN }

/-- The Span Monitor's event of an aligned frame, in either order with the merge: MUTE and MISWIRED by the vector's outcome, the
counters and d by the parity result, quality by evaluation unless w is 0 or the settle mask runs, then the flag and the hold-off,
and by them the side's detected condition and WTR timer (R13, R22 to R27, R29, R30, R36, R40, R45, R87 to R90). -/
def Obligations.ArrivingFrameIsMonitored : Prop :=
  ∀ (s : State) (x : Side) (f : LineFrame) (o : ArrivalOrder), s.resetN = true → s.losPin.get x = false →
    (s.receiver.get x).align = .aligned → MonitorSound s x →
    ∃ t, exec (.alignedFrameArrival x f o) s = .next t ∧
      let outcome := vectorOutcome s x f.vector
      let parity := (s.receiver.get x).heldParity.map (lanesInViolation f.parity)
      let v := parity.getD 0
      let w := (s.profile.weight.get x).toNat
      let m := s.monitor.get x
      let m' := t.monitor.get x
      m'.muteCount = (if outcome = .failed then min (m.muteCount + 1) 8 else 0) ∧
      m'.density = (if parity = none then m.density else estimate m.density v w) ∧
      m'.quality = (if parity = none ∨ w = 0 ∨ m.settle ≠ none then m.quality
        else evaluateQuality (s.profile.tOn.get x) (s.profile.tOff.get x) (s.profile.tFail.get x) m.quality m'.density) ∧
      m'.settle = m.settle ∧
      m'.defects =
        { m.defects with
          mute := decide (m'.muteCount = 8)
          miswired := (match outcome with
            | .foreign => true
            | .passed => false
            | .failed => m.defects.miswired)
          excessive := m'.quality == .excessive } ∧
      (m'.flag = true ↔ m'.defects.flagged) ∧
      (m'.holdOff, m'.holdOffTimer) = holdOffAfter s x m'.flag ∧
      DetectionFollows s t x ∧ t.monitor.get x.other = s.monitor.get x.other ∧
      t.count (.violations x) = advanced (s.count (.violations x)) v ∧
      t.count (.erroredFrames x) = advanced (s.count (.erroredFrames x)) (if 1 ≤ v then 1 else 0) ∧
      t.count (.vectorsDiscarded x) = advanced (s.count (.vectorsDiscarded x)) (if outcome = .passed then 0 else 1) ∧
      ∀ k : Counter, k ∉ [.violations x, .erroredFrames x, .vectorsDiscarded x, .slips x, .entriesIgnored x,
        .cellsDiscarded x, .transitDrops, .requestOverflows] → t.count k = s.count k

/-- The acceptance tests of an arriving vector in their order, the ring ID and neighbour tests made only while JOINED, the sender
expected on East the ID at position p + 1 and on West that at p − 1, modulo N; and the two live conditions that a PASSED vector
alone sets (R53, R68 to R73). -/
def Obligations.ArrivingVectorIsTested : Prop :=
  ∀ (s : State) (x : Side) (f : LineFrame) (o : ArrivalOrder) (p : Fin 32), s.resetN = true → s.losPin.get x = false →
    (s.receiver.get x).align = .aligned → (s.joined = true → s.identity.position = some p) →
    let across := match x with
      | .east => (p.val + 1) % s.ringMap.n
      | .west => (p.val + s.ringMap.n - 1) % s.ringMap.n
    ∃ t, exec (.alignedFrameArrival x f o) s = .next t ∧
      vectorOutcome s x f.vector =
        (if f.vector.check ≠ checkOf f.vector.bytes ∨ (f.vector.state ≠ 0x01#8 ∧ f.vector.state ≠ 0x02#8) then .failed
        else if s.joined = true ∧ (f.vector.ringId ≠ s.ringMap.ringId ∨
            ¬∃ q : Fin 32, q.val = across ∧ (s.ringMap.ids[q]).map (·.val) = some f.vector.sender.toNat) then .foreign
        else .passed) ∧
      t.signalling.neighbourStandalone =
        (if vectorOutcome s x f.vector = .passed then s.signalling.neighbourStandalone.set x (f.vector.state == 0x01#8)
        else s.signalling.neighbourStandalone) ∧
      t.signalling.mapMismatch =
        (if vectorOutcome s x f.vector = .passed then
          s.signalling.mapMismatch.set x (f.vector.state == 0x02#8 && f.vector.digest != s.ringMap.digest)
        else s.signalling.mapMismatch)

/-- The merge of an arriving vector at own position p: a remote entry adopts where it is unlearned or the received edition is 1
to 8 ahead; an own entry keeps its content and its edition catches up by one beyond a newer or conflicting copy, then advances
if its content differs at the end of the event; nothing is merged unless the vector qualifies. An entry with an invalid code counts as ignored where it is known and below N
(R63, R74 to R79; log 7, log 27 for the entries that count as ignored). -/
def Obligations.ArrivingVectorIsMerged : Prop :=
  ∀ (s : State) (x : Side) (f : LineFrame) (o : ArrivalOrder) (p : Fin 32), s.resetN = true → s.losPin.get x = false →
    (s.receiver.get x).align = .aligned → (s.joined = true → s.identity.position = some p) →
    ∃ t, exec (.alignedFrameArrival x f o) s = .next t ∧
      let n := s.ringMap.n
      let merged := s.joined = true ∧ vectorOutcome s x f.vector = .passed ∧ f.vector.state = 0x02#8 ∧
        f.vector.digest = s.ringMap.digest
      (∀ i : Fin 64, t.signalling.rct[i] =
        if merged ∧ i.val / 2 ≠ p.val then
          match receivedEntry n f.vector i with
          | some r =>
            if s.signalling.rct[i].source = none ∨ (1 ≤ (r.edition - s.signalling.rct[i].edition).val ∧
                (r.edition - s.signalling.rct[i].edition).val ≤ 8) then
              ⟨r.condition, r.action, r.edition, some (.line x)⟩
            else s.signalling.rct[i]
          | none => s.signalling.rct[i]
        else s.signalling.rct[i]) ∧
      (∀ y : Side,
        let e := s.signalling.own.get y
        let e' := t.signalling.own.get y
        let caught :=
          match receivedEntry n f.vector (2 * p.val + y.offset) with
          | some r =>
            if merged ∧ ((1 ≤ (r.edition - e.edition).val ∧ (r.edition - e.edition).val ≤ 8) ∨
                (r.edition = e.edition ∧ (r.condition, r.action) ≠ (e.condition, e.action))) then r.edition + 1
            else e.edition
          | none => e.edition
        e'.edition = if (e'.condition, e'.action) = (e.condition, e.action) then caught else caught + 1) ∧
      t.count (.entriesIgnored x) = advanced (s.count (.entriesIgnored x))
        (if merged then (List.finRange 64).countP fun i =>
          entryKnown f.vector.entries[i] && decide (i.val / 2 < n) &&
            (decide ((f.vector.entries[i].extractLsb' 12 3).toNat = 7) ||
              decide ((f.vector.entries[i].extractLsb' 10 2).toNat = 3))
        else 0)

/-- A cell that arrives from a line is handled by the first step of R151 that applies, each discard accounted as R153 gives; a
hop limit above 31 is taken as 31, and one of 0 or 1 leaves 0 (R150, R151, R153 to R155; log 9). -/
def Obligations.LineCellIsRouted : Prop :=
  ∀ (s : State) (x : Side) (f : LineFrame) (o : ArrivalOrder), s.resetN = true → EventsSound s → s.losPin.get x = false →
    (s.receiver.get x).align = .aligned →
    ∃ t, exec (.alignedFrameArrival x f o) s = .next t ∧
      let routed := s.lineRouted x f.management
      t.requests = routed.requests ∧
      Reported s.events
        (slipPulses (x == .east && s.deletes x) (x == .west && s.deletes x) ||| commandDropped [.east, .west] s t |||
          routed.pulses) routed.transmit t ∧
      ∀ k ∈ [Counter.cellsDiscarded x, .transitDrops, .requestOverflows],
        t.count k = if routed.counted = some k then advanced (s.count k) 1 else s.count k

/-- An inbound tributary frame: with a good alignment word its slots replace the holder and its cell is handled by the first step
of R152 that applies; with a bad one the whole frame is discarded; nothing else changes (R4, R150, R152 to R155). -/
def Obligations.TributaryFrameIsTaken : Prop :=
  ∀ (s : State) (f : TributaryFrame), s.resetN = true → EventsSound s →
    ∃ t, exec (.tributaryFrameArrival f) s = .next t ∧
      let routed := s.tributaryRouted f
      t.holder = (if f.alignment = 0x1E7B4D92#32 then some f.slots else s.holder) ∧ t.requests = routed.requests ∧
      Reported s.events routed.pulses routed.transmit t ∧
      (∀ k : Counter, t.count k = if routed.counted = some k then advanced (s.count k) 1 else s.count k) ∧
      t = { s with
        holder := t.holder, requests := t.requests, transmit := t.transmit, counters := t.counters, events := t.events,
        alertN := t.alertN }

/-! ### The timers -/

/-- A hold-off that expires enters STANDING, and the standing defect makes the side CUT with its WTR timer cancelled; at any
other time the command changes nothing (R2, R26, R27, R87; logs 1, 6). -/
def Obligations.HoldOffExpiryMakesCut : Prop :=
  ∀ (s : State) (x : Side), s.resetN = true → EventsSound s → MonitorSound s x → ConditionSound s x →
    ((s.monitor.get x).holdOff = .holding → (s.monitor.get x).holdOffTimer = some 0 →
      ∃ t, exec (.holdOffExpiry x) s = .next t ∧
        t.monitor = s.monitor.set x { s.monitor.get x with holdOff := .standing, holdOffTimer := none } ∧
        (t.condition.get x).detected = .cut ∧ (t.condition.get x).wtr = none ∧
        (t.condition.get x.other).detected = (s.condition.get x.other).detected ∧
        (t.condition.get x.other).wtr = (s.condition.get x.other).wtr ∧
        Reported s.events (commandDropped [.east, .west] s t) s.transmit t ∧
        t = { s with
          monitor := t.monitor, condition := t.condition, signalling := { s.signalling with own := t.signalling.own },
          resolver := t.resolver, engine := t.engine, transmit := t.transmit, events := t.events, alertN := t.alertN }) ∧
    ((s.monitor.get x).holdOffTimer ≠ some 0 → exec (.holdOffExpiry x) s = .next s)

/-- The settle mask's expiry evaluates quality from GOOD by the d reached; the flag and the hold-off follow an EXCESSIVE, and the
side becomes FADE on FADING, or CUT where the hold-off reaches STANDING at once; at any other time the command changes nothing
(R2, R41, R25 to R27, R37, R87, R89; logs 1, 6). -/
def Obligations.SettleMaskExpiryEvaluates : Prop :=
  ∀ (s : State) (x : Side), s.resetN = true → EventsSound s → MonitorSound s x →
    ((s.monitor.get x).settle ≠ some 0 → exec (.settleMaskExpiry x) s = .next s) ∧
    ((s.monitor.get x).settle = some 0 → ∃ t, exec (.settleMaskExpiry x) s = .next t ∧
      let m := s.monitor.get x
      let m' := t.monitor.get x
      m'.settle = none ∧ m'.density = m.density ∧ m'.muteCount = m.muteCount ∧
      m'.quality =
        evaluateQuality (s.profile.tOn.get x) (s.profile.tOff.get x) (s.profile.tFail.get x) .good m.density ∧
      m'.defects = { m.defects with excessive := m'.quality == .excessive } ∧
      (m'.flag = true ↔ m'.defects.flagged) ∧
      (m'.holdOff, m'.holdOffTimer) = holdOffAfter s x m'.flag ∧
      t.monitor.get x.other = s.monitor.get x.other ∧
      DetectionFollows s t x ∧
      Reported s.events (commandDropped [.east, .west] s t) s.transmit t ∧
      t = { s with
        monitor := t.monitor, condition := t.condition, signalling := { s.signalling with own := t.signalling.own },
        resolver := t.resolver, engine := t.engine, transmit := t.transmit, events := t.events, alertN := t.alertN })

/-- At its WTR expiry a HOLD side becomes IDLE and its announced condition is formed afresh; at any other time the command changes
nothing (R2, R90, R98; logs 1, 6). -/
def Obligations.WtrExpiryEndsHold : Prop :=
  ∀ (s : State) (x : Side), s.resetN = true → EventsSound s → RestorationSound s →
    ((s.condition.get x).wtr ≠ some 0 → exec (.wtrExpiry x) s = .next s) ∧
    ((s.condition.get x).wtr = some 0 → ∃ t, exec (.wtrExpiry x) s = .next t ∧
      t.condition = s.condition.set x
        ⟨.idle, none, (s.condition.get x).command,
          if s.park then .park
          else match (s.condition.get x).command with
            | .force => .force
            | .manual => .manual
            | .none => .idle⟩ ∧
      Reported s.events 0#32 s.transmit t ∧
      t = { s with
        condition := t.condition, signalling := { s.signalling with own := t.signalling.own }, resolver := t.resolver,
        engine := t.engine, transmit := t.transmit, events := t.events, alertN := t.alertN })

/-- A confirm timer expiry takes a BRIDGED engine to LOOPED with PARTNER-SILENT present and an UNLOOPING one to IDLE; the own
entry announces it with its edition advanced, and neither R nor the other engine moves; at any other time the command changes
nothing (R2, R62, R63, R114, R119, R122; logs 1, 6). -/
def Obligations.ConfirmExpiryMovesEngine : Prop :=
  ∀ (s : State) (x : Side), s.resetN = true → EventsSound s → RestorationSound s →
    ((s.engine.get x).confirm ≠ some 0 → exec (.confirmTimerExpiry x) s = .next s) ∧
    ((s.engine.get x).confirm = some 0 → ∃ t, exec (.confirmTimerExpiry x) s = .next t ∧
      t.engine = s.engine.set x
        (if (s.engine.get x).phase = .bridged then ⟨.looped, none, true⟩ else ⟨.idle, none, false⟩) ∧
      t.signalling.own = s.signalling.own.set x
        ⟨(s.signalling.own.get x).condition, if (s.engine.get x).phase = .bridged then .looped else .pass,
          (s.signalling.own.get x).edition + 1⟩ ∧
      t.resolver.restored = s.resolver.restored ∧ t.resolver.target = s.resolver.target ∧
      Reported s.events 0#32 s.transmit t ∧
      t = { s with
        signalling := { s.signalling with own := t.signalling.own }, resolver := t.resolver, engine := t.engine,
        transmit := t.transmit, events := t.events, alertN := t.alertN })

/-- A send attempt writes the pending notice with the fields of R170 and clears the flag where the queue its route names has a
free place, and leaves the flag set where it has none; either way the attempt is spent (R170, R171; log 16). -/
def Obligations.SendAttemptWritesNotice : Prop :=
  ∀ s : State, s.resetN = true → EventsSound s → s.events.pending = true → 1 ≤ s.events.attempts →
    exec .noticeSendAttempt s = .next
      (if (s.transmit.get s.profile.noticeRoute).occupancy < 8 then
        { s with
          transmit := s.transmitWith s.profile.noticeRoute (Cell.sealed
            { kind := 3#8
              route := (match s.profile.noticeRoute with
                | .east => 1#8
                | .west => 2#8
                | .tributary => 3#8)
              hop := BitVec.ofNat 8 s.profile.responseHop
              destination := s.profile.noticeDestination.setWidth 8, source := s.identity.nodeId.setWidth 8
              tag := s.events.sequence, operation := 1#8, status := 0#8, table := 12#8, count := 3#8, index := 0#16
              headerCheck := 0#16
              data := #v[s.events.latches, s.events.held, s.frameCount, 0#32, 0#32, 0#32, 0#32, 0#32]
              dataCheck := 0#16 })
          events := { s.events with sequence := s.events.sequence + 1#8, pending := false, attempts := 0 } }
      else { s with events := { s.events with attempts := s.events.attempts - 1 } })

/-! ### The Agent -/

/-- A turn takes the head of the first queue from the pointer on, East, West, Local and back to East, that is not empty and whose
port has a free place; a row that the request does not name, and a turn that is not due, change nothing (R157; log 1). -/
def Obligations.TurnTakesFirstTakable : Prop :=
  ∀ (s : State) (q : Port) (c : Cell) (k : Request) (straps : BitVec 6),
    let takable := fun r : Port => s.requests.get r ≠ [] ∧ (s.transmit.get r).occupancy < 8
    (s.nextTurn = some (q, c) ↔ (s.requests.get q).head? = some c ∧ takable q ∧
      (q = s.pointer ∨ (¬takable s.pointer ∧
        (q = nextPort s.pointer ∨ (¬takable (nextPort s.pointer) ∧ q = nextPort (nextPort s.pointer)))))) ∧
    (s.nextTurn = some (q, c) → c.request ≠ k → exec (k.row straps) s = .next s) ∧
    ((∀ r, ¬takable r) → exec (k.row straps) s = .next s)

/-- The tests of R159 in their order: a request that fails one is taken and answered with its status, and nothing else changes
(R157 to R159; log 14 for the classification of a request whose data check fails). -/
def Obligations.RequestTestsAnswer : Prop :=
  ∀ (s : State) (q : Port) (c : Cell) (straps : BitVec 6), s.resetN = true → EventsSound s → s.nextTurn = some (q, c) →
    let addressing := c.request ∈ [Request.read, .write, .set, .clear, .readClear]
    (c.request = .unknownOperation ↔ c.operation.toNat = 0 ∨ 8 < c.operation.toNat) ∧
    (c.request = .unknownCommand ↔ c.operation = 7#8 ∧ (c.data[0].toNat = 0 ∨ 11 < c.data[0].toNat)) ∧
    (c.dataCheck ≠ checkOf c.dataBytes → exec (c.request.row straps) s = .next (s.answered q c .check [])) ∧
    (c.dataCheck = checkOf c.dataBytes →
      (c.request = .unknownOperation ∨ c.request = .unknownCommand →
        exec (c.request.row straps) s = .next (s.answered q c .unknown [])) ∧
      (addressing → 12 < c.table.toNat → exec (c.request.row straps) s = .next (s.answered q c .unknown [])) ∧
      (addressing → c.table.toNat ≤ 12 → c.count.toNat = 0 ∨ 8 < c.count.toNat →
        exec (c.request.row straps) s = .next (s.answered q c .range [])))

/-- READ returns the words named, or RANGE beyond the table's last word; POLL returns the record of its selector; neither changes
anything else (R158, R160, R165). -/
def Obligations.ReadAndPollAnswer : Prop :=
  ∀ (s : State) (q : Port) (c : Cell), EventsSound s →
    (TurnTakes s .read q c → c.table.toNat ≤ 12 → 1 ≤ c.count.toNat → c.count.toNat ≤ 8 →
      exec .read s = .next
        (if c.index.toNat + c.count.toNat ≤ tableSize c.table.toNat then
          s.answered q c .done
            ((List.range c.count.toNat).map fun j => readWord s c.table.toNat (c.index.toNat + j))
        else s.answered q c .range [])) ∧
    (TurnTakes s .poll q c → exec .poll s = .next (s.answered q c .done
      (match s.profile.pollSelector with
        | 0 => nodeSummary s
        | 1 => sideSummary s .east
        | 2 => sideSummary s .west
        | 3 => counterSummary s)))

/-- The words that READ returns and the records that POLL returns hold, in the fields that 11 names, the state as it stands (R49, R50,
R60, R85, R90, R128, R162, R165, R169, R173; log 11 for words 64 and 65 of table 9). RecordWordsRoundTrip says the same of the
records of tables 3 to 8. -/
def Obligations.WordsShowTheState : Prop :=
  ∀ s : State, Sound s →
    IdentityWordsShown s ∧ ProfileWordsShown s ∧ RingMapWordsShown s ∧ RecordWordsShown s ∧ RctWordsShown s ∧
    (∀ x, SideWordsShown s x) ∧ CounterAndEventWordsShown s ∧ PollRecordsShown s

/-- A WRITE, SET or CLEAR whose new words pass every check stores them, WRITE the data words, SET and CLEAR the words held with
the mask bits added or removed; it is answered DONE with the named words as they then stand, and ALERT_N is formed again. One
that fails a check stores nothing and is answered with its status, and RETRY also advances the retries counter and sets the
retry flag (R133, R136, R158, R161, R172). WriteStatusByTable and StoredWords say which status and what is stored. -/
def Obligations.WriteSetClearAnswer : Prop :=
  ∀ (s : State) (k : Request) (q : Port) (c : Cell) (straps : BitVec 6), EventsSound s → TurnTakes s k q c →
    k ∈ [Request.write, .set, .clear] → c.table.toNat ≤ 12 → 1 ≤ c.count.toNat → c.count.toNat ≤ 8 →
    let words := s.requestedWords k c
    let st := writeStatus s c.table.toNat c.index.toNat words
    let s1 := storeWords s c.table.toNat c.index.toNat words
    (st = .done → exec (k.row straps) s = .next
      { s1.answered q c .done (readWords s1 c.table.toNat c.index.toNat c.count.toNat) with
        alertN := s1.events.latches &&& s1.events.alert == 0#32 }) ∧
    (st ≠ .done → st ≠ .retry → exec (k.row straps) s = .next (s.answered q c st [])) ∧
    (st = .retry → ∃ t, exec (k.row straps) s = .next t ∧ Retried s t q c)

/-- The status of a WRITE, SET or CLEAR by its table, the first case that holds deciding: the standby banks (R133, R134), the
Identity table (R48, R49), the Profile (R162, R179), the Ring Map (R51), the Events table (R169) and the read-only tables
(R85, R160). Index words beyond table 0 answer RANGE in both modes (log 22). -/
def Obligations.WriteStatusByTable : Prop :=
  ∀ (s : State) (table index : Nat) (words : List Word), words ≠ [] →
    let st := writeStatus s table index words
    let stop := index + words.length
    (table = 3 ∨ table = 5 → st =
      if s.tables.commit ≠ none then .retry
      else if 64 < stop then .range
      else if words.any fun w => fieldAt w 30 2 = 3 ∨ (fieldAt w 30 2 = 2 ∧ 63 < fieldAt w 8 8) ∨
        (fieldAt w 29 1 = 1 ∧ 63 < fieldAt w 0 8) then .range
      else .done) ∧
    (table = 7 → st =
      if s.tables.commit ≠ none then .retry
      else if 64 < stop then .range
      else if words.any fun w => fieldAt w 31 1 = 1 ∧
        (62 < fieldAt w 8 8 ∨ 62 < fieldAt w 0 8 ∨ fieldAt w 8 8 = fieldAt w 0 8) then .range
      else .done) ∧
    (table = 0 → st =
      if index = 1 ∧ words.length = 1 then
        if s.joined then .refused else if words.any fun w => 62 < w.toNat then .range else .done
      else if index < 4 then .refused
      else .range) ∧
    (table = 1 → st =
      if 7 < stop then .range
      else if index ≤ 6 ∧ 6 < stop ∧ fieldAt (words.getD (6 - index) 0#32) 0 8 ∉ [1, 2, 3] then .range
      else .done) ∧
    (table = 2 → st =
      if s.joined then .refused
      else if 33 < stop then .range
      else if (List.range words.length).any fun j =>
        if index + j = 0 then 32 < fieldAt (words.getD j 0#32) 16 16 else 63 < (words.getD j 0#32).toNat then .range
      else .done) ∧
    (table = 12 → st =
      if index ≤ 1 ∨ (index ≤ 6 ∧ 6 < stop) then .refused else if 7 < stop then .range else .done) ∧
    (table ∈ [4, 6, 8, 9, 10, 11] → st = .refused)

/-- What the words of a request that passed its checks store, word by word, and that nothing else changes: records of the standby
banks, the node ID in use, the Profile with every numeric field at the nearer limit of its range, the Ring Map, and the
enables at the positions they store (R48, R50, R133, R162, R169, R178, R179). -/
def Obligations.StoredWords : Prop :=
  ∀ (s : State) (table index : Nat) (words : List Word), writeStatus s table index words = .done →
    let t := storeWords s table index words
    let named := fun i : Nat => index ≤ i ∧ i < index + words.length
    let w := fun i : Nat => words.getD (i - index) 0#32
    (table = 3 → (∀ i : Fin 64, if named i then slotOfWord (w i) = some t.tables.slot.standby[i]
        else t.tables.slot.standby[i] = s.tables.slot.standby[i]) ∧
      t = { s with tables := { s.tables with slot := ⟨t.tables.slot.standby, s.tables.slot.active⟩ } }) ∧
    (table = 5 → (∀ i : Fin 64, if named i then slotOfWord (w i) = some t.tables.extra.standby[i]
        else t.tables.extra.standby[i] = s.tables.extra.standby[i]) ∧
      t = { s with tables := { s.tables with extra := ⟨t.tables.extra.standby, s.tables.extra.active⟩ } }) ∧
    (table = 7 → (∀ i : Fin 64, if named i then circuitOfWord (w i) = some t.tables.circuit.standby[i]
        else t.tables.circuit.standby[i] = s.tables.circuit.standby[i]) ∧
      t = { s with tables := { s.tables with circuit := ⟨t.tables.circuit.standby, s.tables.circuit.active⟩ } }) ∧
    (table = 0 → words ≠ [] → t = { s with identity := { s.identity with nodeId := (w 1).setWidth 6 } }) ∧
    (table = 1 →
      (∀ x : Side,
        let part := fun v : Word => match x with
          | .east => v.extractLsb' 16 16
          | .west => v.extractLsb' 0 16
        t.profile.weight.get x = (if named 0 then part (w 0) else s.profile.weight.get x) ∧
        t.profile.tOn.get x = (if named 1 then part (w 1) else s.profile.tOn.get x) ∧
        t.profile.tOff.get x = (if named 2 then part (w 2) else s.profile.tOff.get x) ∧
        t.profile.tFail.get x = (if named 3 then part (w 3) else s.profile.tFail.get x)) ∧
      t.profile.holdOffTime = (if named 4 then min 1000 (fieldAt (w 4) 16 16) else s.profile.holdOffTime) ∧
      t.profile.settleTime = (if named 4 then min 1000 (fieldAt (w 4) 0 16) else s.profile.settleTime) ∧
      t.profile.wtrTime = (if named 5 then max 1 (min 3600 (fieldAt (w 5) 16 16)) else s.profile.wtrTime) ∧
      t.profile.confirmTimeout = (if named 5 then max 2 (min 500 (fieldAt (w 5) 0 16)) else s.profile.confirmTimeout) ∧
      t.profile.responseHop = (if named 6 then max 1 (min 31 (fieldAt (w 6) 24 8)) else s.profile.responseHop) ∧
      t.profile.pollSelector.val = (if named 6 then min 3 (fieldAt (w 6) 16 8) else s.profile.pollSelector.val) ∧
      t.profile.noticeDestination.toNat = (if named 6 then min 63 (fieldAt (w 6) 8 8) else s.profile.noticeDestination.toNat) ∧
      some t.profile.noticeRoute = (if named 6 then Port.ofRoute (fieldAt (w 6) 0 8) else some s.profile.noticeRoute) ∧
      t = { s with profile := t.profile }) ∧
    (table = 2 →
      t.ringMap.n = (if named 0 then fieldAt (w 0) 16 16 else s.ringMap.n) ∧
      t.ringMap.ringId = (if named 0 then (w 0).extractLsb' 0 16 else s.ringMap.ringId) ∧
      (∀ p : Fin 32, if named (p.val + 1) then
          t.ringMap.ids[p].map (·.val) = if (w (p.val + 1)).toNat = 63 then none else some (w (p.val + 1)).toNat
        else t.ringMap.ids[p] = s.ringMap.ids[p]) ∧
      t = { s with ringMap := t.ringMap }) ∧
    (table = 12 →
      t.events.rise = (if named 2 then w 2 &&& 0x7FFFFFFF#32 else s.events.rise) ∧
      t.events.fall = (if named 3 then w 3 &&& 0x01FFFFFF#32 else s.events.fall) ∧
      t.events.notify = (if named 4 then w 4 &&& 0x7FFFFFFF#32 else s.events.notify) ∧
      t.events.alert = (if named 5 then w 5 &&& 0x7FFFFFFF#32 else s.events.alert) ∧
      t = { s with
        events := { s.events with
          rise := t.events.rise, fall := t.events.fall, notify := t.events.notify, alert := t.events.alert } })

/-- Records and their table words agree: the word of every record stores that record, and the word that a stored record reads as
keeps exactly the fields its layout stores (R129, R131, R133, R179). -/
def Obligations.RecordWordsRoundTrip : Prop :=
  (∀ r : SlotRecord, slotOfWord (slotWord r) = some r) ∧
  (∀ c : Option Circuit, (∀ r, c = some r → r.origin ≠ r.terminus) → circuitOfWord (circuitWord c) = some c) ∧
  (∀ (w : Word) (r : SlotRecord), slotOfWord w = some r →
    slotWord r = (w &&& 0xE0000000#32) ||| (if fieldAt w 30 2 = 2 then w &&& 0x0000FF00#32 else 0#32) |||
      (if fieldAt w 29 1 = 1 then w &&& 0x000000FF#32 else 0#32)) ∧
  (∀ (w : Word) (c : Option Circuit), circuitOfWord w = some c →
    circuitWord c = if fieldAt w 31 1 = 1 then w &&& 0xC000FFFF#32 else 0#32)

/-- READ-CLEAR is accepted by the counters and the latch word alone; it returns the values as they stood and clears those it
names, and the retry flag with counter 16; every other READ-CLEAR clears nothing (R160, R169, R172, R174). A fall of
COUNTER-SATURATED that it makes is latched and prompts no notice (R168, R170; log 26). -/
def Obligations.ReadClearClears : Prop :=
  ∀ (s : State) (q : Port) (c : Cell), EventsSound s → TurnTakes s .readClear q c → c.table.toNat ≤ 12 →
    1 ≤ c.count.toNat → c.count.toNat ≤ 8 →
    let first := c.index.toNat
    let stop := c.index.toNat + c.count.toNat
    let words := (List.range c.count.toNat).map fun j => readWord s c.table.toNat (first + j)
    (c.table.toNat = 11 → stop ≤ 18 → ∃ t, exec .readClear s = .next t ∧
      (∀ i : Fin 18, t.counters[i] = if first ≤ i.val ∧ i.val < stop then 0#32 else s.counters[i]) ∧
      Observed s.events 0#32 t ∧
      t = { s with
        requests := s.requestsTaken q, pointer := nextPort q, counters := t.counters
        tables := { s.tables with retryFlag := if first ≤ 16 ∧ 16 < stop then false else s.tables.retryFlag }
        transmit := s.transmitWith q (s.response q c .done words)
        events := { s.events with held := t.events.held, latches := t.events.latches }, alertN := t.alertN }) ∧
    (c.table.toNat = 11 → 18 < stop → exec .readClear s = .next (s.answered q c .range [])) ∧
    (c.table.toNat = 12 → first = 1 → c.count.toNat = 1 → exec .readClear s = .next
      { s.answered q c .done [s.events.latches] with events := { s.events with latches := 0#32 }, alertN := true }) ∧
    (c.table.toNat = 12 → 7 ≤ first → exec .readClear s = .next (s.answered q c .range [])) ∧
    (c.table.toNat = 12 → first < 7 → ¬(first = 1 ∧ c.count.toNat = 1) →
      exec .readClear s = .next (s.answered q c .refused [])) ∧
    (c.table.toNat ≠ 11 → c.table.toNat ≠ 12 → exec .readClear s = .next (s.answered q c .refused []))

/-- A COMMIT is answered RETRY while one is pending and INVALID where a tributary is the drop of two standby records; a valid one
sets the commit-pending flag and keeps its place reserved, without a response (R135, R136, R157). -/
def Obligations.CommitRequestAnswered : Prop :=
  ∀ (s : State) (q : Port) (c : Cell), EventsSound s → TurnTakes s .commit q c →
    let named := fun u : Fin 64 => s.tables.standbyDrops.count u
    (s.tables.commit ≠ none → ∃ t, exec .commit s = .next t ∧ Retried s t q c) ∧
    (s.tables.commit = none → (∃ u, 1 < named u) → exec .commit s = .next (s.answered q c .invalid [])) ∧
    (s.tables.commit = none → (∀ u, named u ≤ 1) → exec .commit s = .next
      { s with
        requests := s.requestsTaken q, pointer := nextPort q
        tables := { s.tables with commit := some ⟨q, c, s.identity.nodeId⟩ }
        transmit := s.transmit.set q
          { s.transmit.get q with reserved := (s.transmit.get q).reserved + 1 } })

/-! ### Commands -/

/-- A command is accepted exactly when R163 says so; one that is not is answered REFUSED and changes nothing (R55, R57, R93 to
R95, R163). -/
def Obligations.UnacceptedCommandIsRefused : Prop :=
  ∀ (s : State) (k : CommandCode) (q : Port) (c : Cell) (straps : BitVec 6), EventsSound s →
    TurnTakes s (.command k) q c → ¬Accepted s k →
    exec ((Request.command k).row straps) s = .next (s.answered q c .refused [])

/-- An accepted FORCE or MANUAL becomes the side's command and its announced condition; a FORCE puts the span the side faces into
R and its engine bridges; the answer is DONE (R92, R93, R96, R98, R102, R106, R112). -/
def Obligations.ForceAndManualTakeEffect : Prop :=
  ∀ (s : State) (force : Bool) (x : Side) (p : Fin 32) (q : Port) (c : Cell) (straps : BitVec 6),
    let k := match force, x with
      | true, .east => CommandCode.forceEast
      | true, .west => CommandCode.forceWest
      | false, .east => CommandCode.manualEast
      | false, .west => CommandCode.manualWest
    RestorationSound s → EventsSound s → TurnTakes s (.command k) q c → Accepted s k → s.identity.position = some p →
    ∃ t, exec ((Request.command k).row straps) s = .next t ∧
      t.condition.get x =
        { s.condition.get x with
          command := if force then .force else .manual, announced := if force then .force else .manual } ∧
      (t.signalling.own.get x).condition = (if force then .force else .manual) ∧
      t.condition.get x.other =
        { s.condition.get x.other with
          command := (t.condition.get x.other).command, announced := (t.condition.get x.other).announced } ∧
      (force = true → t.resolver.restored.getLsbD (spanFaced s.ringMap.n p x) = true ∧ t.resolver.target.get x = true ∧
        ((t.engine.get x).phase = .bridged ∨ (t.engine.get x).phase = .looped) ∧
        (t.condition.get x.other).command ≠ .manual) ∧
      Reported s.events (commandDropped [x.other] s t) (s.transmitWith q (s.response q c .done [])) t ∧
      t = { s with
        condition := t.condition, signalling := { s.signalling with own := t.signalling.own }, resolver := t.resolver,
        engine := t.engine, requests := s.requestsTaken q, pointer := nextPort q, transmit := t.transmit,
        events := t.events, alertN := t.alertN }

/-- PARK raises both announced conditions to PARK, drops MANUAL and empties R; CLEAR-PARK lets the conditions follow detection and
commands again; both are answered DONE (R94, R96, R98, R102, R103, R106). -/
def Obligations.ParkTakesEffect : Prop :=
  ∀ (s : State) (v : Bool) (q : Port) (c : Cell) (straps : BitVec 6),
    let k := if v then CommandCode.park else CommandCode.clearPark
    RestorationSound s → EventsSound s → TurnTakes s (.command k) q c → s.joined = true →
    ∃ t, exec ((Request.command k).row straps) s = .next t ∧ t.park = v ∧
      (∀ x,
        let d := s.condition.get x
        t.condition.get x =
          { d with
            command := if v = true ∧ d.command = .manual then .none else d.command
            announced := if v then .park else d.detected.condition.higher d.command.condition } ∧
        (t.signalling.own.get x).condition = (t.condition.get x).announced) ∧
      (v = true → t.resolver.restored = 0#32 ∧ t.resolver.target = ⟨false, false⟩) ∧
      Reported s.events (commandDropped [.east, .west] s t) (s.transmitWith q (s.response q c .done [])) t ∧
      t = { s with
        park := t.park, condition := t.condition, signalling := { s.signalling with own := t.signalling.own },
        resolver := t.resolver, engine := t.engine, requests := s.requestsTaken q, pointer := nextPort q,
        transmit := t.transmit, events := t.events, alertN := t.alertN }

/-- CLEAR removes the side's command and ends a HOLD at once with its WTR timer; IDLE, FADE and CUT stay; the answer is DONE (R95,
R98). -/
def Obligations.ClearTakesEffect : Prop :=
  ∀ (s : State) (x : Side) (q : Port) (c : Cell) (straps : BitVec 6),
    let k := match x with
      | .east => CommandCode.clearEast
      | .west => CommandCode.clearWest
    let d := if (s.condition.get x).detected = .hold then Detected.idle else (s.condition.get x).detected
    RestorationSound s → EventsSound s → TurnTakes s (.command k) q c → s.joined = true →
    ∃ t, exec ((Request.command k).row straps) s = .next t ∧
      t.condition = s.condition.set x ⟨d, none, .none, if s.park then .park else d.condition⟩ ∧
      (t.signalling.own.get x).condition = (t.condition.get x).announced ∧
      Reported s.events 0#32 (s.transmitWith q (s.response q c .done [])) t ∧
      t = { s with
        condition := t.condition, signalling := { s.signalling with own := t.signalling.own }, resolver := t.resolver,
        engine := t.engine, requests := s.requestsTaken q, pointer := nextPort q, transmit := t.transmit,
        events := t.events, alertN := t.alertN }

/-- An accepted JOIN fixes the own position, unlearns every remote entry, starts the hold-offs from the flags as they stand, and
recomputes; with hold-off time 0 a side whose flag is present becomes CUT within it; the answer is DONE (R28, R56, R83). -/
def Obligations.JoinTakesEffect : Prop :=
  ∀ (s : State) (q : Port) (c : Cell), RestorationSound s → EventsSound s → (∀ x, MonitorSound s x) →
    TurnTakes s (.command .join) q c → JoinAccepted s →
    ∃ t, exec .join s = .next t ∧
      (∃ p : Fin 32, p.val < s.ringMap.n ∧ s.ringMap.ids[p].map (·.val) = some s.identity.nodeId.toNat ∧
        t.identity = { s.identity with joined := true, position := some p }) ∧
      (∀ i : Fin 64, t.signalling.rct[i] = ⟨.idle, .pass, 0, none⟩) ∧
      (∀ x,
        let now := (s.monitor.get x).flag = true ∧ s.profile.holdOffTime = 0
        t.monitor.get x =
          { s.monitor.get x with
            holdOff := if (s.monitor.get x).flag then if s.profile.holdOffTime = 0 then .standing else .holding else .absent
            holdOffTimer :=
              if (s.monitor.get x).flag then
                if s.profile.holdOffTime = 0 then none else some (100 * s.profile.holdOffTime)
              else none } ∧
        (t.condition.get x).detected = (if now then .cut else (s.condition.get x).detected) ∧
        (t.condition.get x).wtr = (if now then none else (s.condition.get x).wtr) ∧
        (t.condition.get x).command = .none ∧
        (t.signalling.own.get x).condition = (t.condition.get x).detected.condition ∧
        (t.signalling.own.get x).action = (t.engine.get x).phase.action ∧
        (t.signalling.own.get x).edition =
          (if ((t.signalling.own.get x).condition, (t.signalling.own.get x).action) =
              ((s.signalling.own.get x).condition, (s.signalling.own.get x).action) then
            (s.signalling.own.get x).edition
          else (s.signalling.own.get x).edition + 1)) ∧
      t.resolver = t.resolved ∧
      Reported s.events 0#32 (s.transmitWith q (s.response q c .done [])) t ∧
      t = { s with
        identity := t.identity, monitor := t.monitor, condition := t.condition
        signalling := { s.signalling with rct := t.signalling.rct, own := t.signalling.own }
        resolver := t.resolver, engine := t.engine, requests := s.requestsTaken q, pointer := nextPort q,
        transmit := t.transmit, events := t.events, alertN := t.alertN }

/-- An accepted LEAVE clears the operator commands, unlearns the remote entries, ends the hold-offs and leaves the Resolver
DETACHED; the own entries keep what detection announces; the answer is DONE (R28, R57, R84; log 15). -/
def Obligations.LeaveTakesEffect : Prop :=
  ∀ (s : State) (q : Port) (c : Cell), RestorationSound s → EventsSound s → TurnTakes s (.command .leave) q c → Accepted s .leave →
    ∃ t, exec .leave s = .next t ∧
      t.identity = { s.identity with joined := false, position := none } ∧ t.park = false ∧
      (∀ i : Fin 64, t.signalling.rct[i] = ⟨.idle, .pass, 0, none⟩) ∧
      (∀ x,
        let d := (s.condition.get x).detected.condition
        let o := s.signalling.own.get x
        t.monitor.get x = { s.monitor.get x with holdOff := .absent, holdOffTimer := none } ∧
        t.condition.get x = { s.condition.get x with command := .none, announced := d } ∧
        t.signalling.own.get x = ⟨d, .pass, if d = o.condition then o.edition else o.edition + 1⟩) ∧
      t.resolver = ⟨0#32, none, true, .detached, ⟨false, false⟩⟩ ∧
      Reported s.events 0#32 (s.transmitWith q (s.response q c .done [])) t ∧
      t = { s with
        identity := t.identity, park := t.park, monitor := t.monitor, condition := t.condition
        signalling := { s.signalling with rct := t.signalling.rct, own := t.signalling.own }
        resolver := t.resolver, requests := s.requestsTaken q, pointer := nextPort q, transmit := t.transmit,
        events := t.events, alertN := t.alertN }

/-! ### What holds of every event -/

/-- In every event but an arriving frame and a reset, an own entry's edition advances by one, modulo 16, when its content differs
at the end of the event, and stands when it does not (R63, R64). A local frame start is one event when nothing of the last one
is left (log 6). -/
def Obligations.EditionsCountContentChanges : Prop :=
  ∀ (s t : State) (c : Instr) (x : Side), exec c s = .next t → (∀ y f o, c ≠ .alignedFrameArrival y f o) → ¬c.resets →
    (∀ part, c = .localFrameStart part → FrameStartDue s) →
    (t.signalling.own.get x).edition =
      if ((t.signalling.own.get x).condition, (t.signalling.own.get x).action) =
          ((s.signalling.own.get x).condition, (s.signalling.own.get x).action) then
        (s.signalling.own.get x).edition
      else (s.signalling.own.get x).edition + 1

/-- Every event that writes no enable, clears no latch and is no reset or send attempt ends as R166 to R172 say: the live
conditions and the pulse events of the command are latched exactly by their enabled changes, and at most one notice is written,
at the tail of what the command itself leaves of the transmit queues. A local frame start is one event when nothing of the last
one is left (log 6). ReadClearClears says how a READ-CLEAR ends, SendAttemptWritesNotice how a send attempt does. -/
def Obligations.EventsAreLatchedAndNotified : Prop :=
  ∀ (s t : State) (c : Instr), s.resetN = true → EventsSound s → RestorationSound s → exec c s = .next t → ¬c.resets →
    c ≠ .readClear → c ≠ .noticeSendAttempt → (∀ part, c = .localFrameStart part → FrameStartDue s) →
    EnablesKept s.events t.events →
    ∃ base, s.QueuesWorked c base ∧ Reported s.events (s.pulsesOf c t) base t

/-- What may change what: the mode, the strap value, the active banks, the table's remote entries, the Ring Map, and the fall of a
counter or a latch (R46, R47, R50, R51, R54, R81, R132, R137, R168, R173, R174; log 6 for the turn of the Table Store). -/
def Obligations.OnlyTheseEventsChange : Prop :=
  ∀ (s t : State) (c : Instr), exec c s = .next t → ¬c.resets →
    (t.joined = s.joined ∨ c = .join ∨ c = .leave) ∧ t.identity.strap = s.identity.strap ∧
    (t.identity.nodeId = s.identity.nodeId ∧ t.ringMap = s.ringMap ∧ t.profile = s.profile ∨
      c ∈ [Instr.write, .set, .clear]) ∧
    (s.joined = true → t.identity.nodeId = s.identity.nodeId ∧ t.ringMap = s.ringMap) ∧
    (t.tables.slot.active = s.tables.slot.active ∧ t.tables.extra.active = s.tables.extra.active ∧
        t.tables.circuit.active = s.tables.circuit.active ∨
      s.tables.commit ≠ none ∧ s.instant.swapTurn = true ∧ (c = .commitSwap ∨ ∃ part, c = .localFrameStart part)) ∧
    (t.signalling.rct = s.signalling.rct ∨ c = .join ∨ c = .leave ∨ ∃ x f o, c = .alignedFrameArrival x f o) ∧
    ((∀ k : Counter, (s.count k).toNat ≤ (t.count k).toNat) ∨ c = .readClear) ∧
    ((∀ i : Fin 32, s.events.latches.getLsbD i = true → t.events.latches.getLsbD i = true) ∨ c = .readClear)

/-- The Loop Engines after an event, from what they were, their targets before and after, and the action of the far end: the target
change first, then the partner test, with the confirm timer started from the Profile (R109, R110, R112, R113, R115 to R118, R120,
R122; log 25). It holds of every event with one chain of notices: not of a confirm expiry (ConfirmExpiryMovesEngine), a local
frame start, which counts the timer, a reset, an entry to ALIGNED with a settle mask time of 0, nor of a frame arrival that moves
the detected condition beside its merge. -/
def Obligations.EnginesFollowTheTable : Prop :=
  ∀ (s t : State) (c : Instr) (x : Side), RestorationSound s → exec c s = .next t → ¬c.resets →
    (∀ y, c ≠ .confirmTimerExpiry y) → (∀ part, c ≠ .localFrameStart part) →
    (∀ y w, c = .presyncWordCheck y w → s.profile.settleTime ≠ 0) →
    (∀ y f o, c = .alignedFrameArrival y f o → (t.condition.get y).detected = (s.condition.get y).detected) →
    t.engine.get x = (s.engine.get x).moved (s.resolver.target.get x) (t.resolver.target.get x) (t.farAction x)
      (some (100 * s.profile.confirmTimeout))

/-! ### The Resolver and the Span Monitor's numbers -/

/-- R by the first step of R102 whose test holds, over the span conditions of R101. -/
def Obligations.RestoredSetIsChosen : Prop :=
  ∀ (s : State) (k : Fin 32),
    let n := s.ringMap.n
    let east := fun j : Nat => (s.entry j .east).countedCondition
    let west := fun j : Nat => (s.entry ((j + 1) % n) .west).countedCondition
    let cond := fun j : Nat => max (east j).code (west j).code
    let parks := fun (p : Fin 32) (x : Side) => (s.entry p x).learned && (s.entry p x).condition == .park
    let lowest := fun v : Nat => cond k == v && (List.range k).all fun j => cond j != v
    (s.chooseRestored.getLsbD k = true ↔ k.val < n ∧
      if ∃ p : Fin 32, parks p .east ∨ parks p .west then False
      else if ∃ j < n, cond j = 4 ∨ cond j = 5 then cond k = 4 ∨ cond k = 5
      else if ∃ j < n, cond j = 3 then cond k = 3
      else if ∃ j < n, cond j = 2 then lowest 2 = true
      else lowest 1 = true)

/-- The role and the loop targets at own position p, from R and the ring-quiet flag (R104 to R106). -/
def Obligations.RoleAndTargetsFollow : Prop :=
  ∀ (s : State) (p : Fin 32), RestorationSound s →
    (s.joined = false → s.resolver = ⟨0#32, none, true, .detached, ⟨false, false⟩⟩) ∧
    (s.joined = true → s.identity.position = some p →
      let n := s.ringMap.n
      let e := s.resolver.restored.getLsbD p
      let w := s.resolver.restored.getLsbD ((p.val + n - 1) % n)
      s.resolver.role =
        (if e = true ∧ w = true then .isolated else if e then .loopEast else if w then .loopWest
        else if s.resolver.restored ≠ 0#32 then .transit else if s.resolver.ringQuiet then .normal else .drain) ∧
      s.resolver.target = ⟨e, w⟩ ∧
      (s.resolver.ringQuiet = true ↔ ∀ q : Fin 32, ∀ x, (s.entry q x).learned = true → (s.entry q x).action = .pass))

/-- The own segment of a JOINED node at p holds the position q exactly when p and q are joined, going east or going west, by spans
that are not in R (R104, R145). -/
def Obligations.OwnSegmentIsTheRunRoundTheNode : Prop :=
  ∀ (s : State) (p q : Fin 32) (id : Fin 63), RestorationSound s → s.joined = true → s.identity.position = some p →
    q.val < s.ringMap.n → s.ringMap.ids[q] = some id →
    (s.inOwnSegment id = true ↔
      (∃ j < s.ringMap.n, (p.val + j) % s.ringMap.n = q.val ∧
        ∀ i < j, s.resolver.restored.getLsbD ((p.val + i) % s.ringMap.n) = false) ∨
      (∃ j < s.ringMap.n, (q.val + j) % s.ringMap.n = p.val ∧
        ∀ i < j, s.resolver.restored.getLsbD ((q.val + i) % s.ringMap.n) = false))

/-- Two JOINED nodes of one ring whose tables agree on every span end below N compute the same R, segments and ring-quiet flag,
and for every span of R the engines at its two ends both have the target loop (R176). -/
def Obligations.AgreeingNodesRestoreAlike : Prop :=
  ∀ s t : State, RestorationSound s → RestorationSound t → s.joined = true → t.joined = true → s.ringMap = t.ringMap →
    (∀ (p : Fin 32) (x : Side), p.val < s.ringMap.n →
      let a := s.entry p x
      let b := t.entry p x
      (a.learned = true ∧ b.learned = true ∧ a.condition = b.condition ∧ a.action = b.action) ∨
      (a.learned = false ∧ b.condition = .idle ∧ b.action = .pass) ∨
      (b.learned = false ∧ a.condition = .idle ∧ a.action = .pass)) →
    s.resolver.restored = t.resolver.restored ∧ s.resolver.ringQuiet = t.resolver.ringQuiet ∧
    (∀ p q : Fin 32, s.identity.position = some p → t.identity.position = some q →
      (∃ a b, t.resolver.segment = some (a, b) ∧ (p.val + s.ringMap.n - a) % s.ringMap.n ≤ (b + s.ringMap.n - a) % s.ringMap.n) →
      s.resolver.segment = t.resolver.segment) ∧
    ∀ p q : Fin 32, s.identity.position = some p → t.identity.position = some q → q.val = (p.val + 1) % s.ringMap.n →
      s.resolver.restored.getLsbD p = true → s.resolver.target.east = true ∧ t.resolver.target.west = true

/-- d moves toward the target of each parity result without passing it, by diff × w / 65536 rounded to the nearest with halves
away from zero and by at least 1, and a steady v brings it there exactly (R30). -/
def Obligations.EstimatorFollowsTheTarget : Prop :=
  ∀ d v w : Nat, d ≤ 33554432 → v ≤ 32 → w ≤ 65535 →
    let target := v * 1048576
    estimate d v w ≤ 33554432 ∧ estimate d v 0 = d ∧
    (w ≠ 0 → d < target → estimate d v w = d + max 1 (((target - d) * w * 2 + 65536) / 131072) ∧ estimate d v w ≤ target) ∧
    (w ≠ 0 → target < d → estimate d v w + max 1 (((d - target) * w * 2 + 65536) / 131072) = d ∧ target ≤ estimate d v w) ∧
    (w ≠ 0 → ∃ m, (fun e => estimate e v w)^[m] d = target)

/-- Rate codes: each code that stands for a value reports that value, and the code reported for d stands for a value within half
a unit of its last mantissa bit, codes of larger d never standing for less (R33, R34). -/
def Obligations.RateCodesReportDensity : Prop :=
  (∀ c : Half, rateCode (rateValue c) = c) ∧
  (∀ d : Nat, d < 4096 → rateValue (rateCode d) = d) ∧
  (∀ d : Nat, 4096 ≤ d → d ≤ 33554432 →
    2 * rateValue (rateCode d) ≤ 2 * d + 2 ^ (Nat.log2 d - 12) ∧ 2 * d < 2 * rateValue (rateCode d) + 2 ^ (Nat.log2 d - 12)) ∧
  (∀ d e : Nat, d ≤ e → e ≤ 33554432 → rateValue (rateCode d) ≤ rateValue (rateCode e))

/-- The evaluation of quality by d, T_on and the effective exit and fail thresholds (R35, R37). -/
def Obligations.QualityIsEvaluated : Prop :=
  ∀ (tOn tOff tFail : Half) (q : Quality) (d : Nat),
    let on := rateValue tOn
    let off := min (rateValue tOff) (rateValue tOn)
    let fail := max (rateValue tFail) (rateValue tOn)
    (evaluateQuality tOn tOff tFail q d = .excessive ↔ if q = .excessive then on ≤ d else fail ≤ d) ∧
    (evaluateQuality tOn tOff tFail q d = .good ↔ if q = .good then d < on else d < off) ∧
    (fail ≤ d → evaluateQuality tOn tOff tFail q d = .excessive) ∧ (d < off → evaluateQuality tOn tOff tFail q d = .good)
end

