-- ==== Sys2Proof/Laws/State.lean ====
section
/-! SUPPORT. One lemma for each field of State under each update, true by rfl, so that no proof unfolds an update. -/

namespace Sys2Proof.Machine

variable (s : State)

section
variable (v : Bool)
@[simp] theorem State.setResetN_resetN : (s.setResetN v).resetN = v := rfl
@[simp] theorem State.setResetN_losPin : (s.setResetN v).losPin = s.losPin := rfl
@[simp] theorem State.setResetN_frameCount : (s.setResetN v).frameCount = s.frameCount := rfl
@[simp] theorem State.setResetN_instant : (s.setResetN v).instant = s.instant := rfl
@[simp] theorem State.setResetN_receiver : (s.setResetN v).receiver = s.receiver := rfl
@[simp] theorem State.setResetN_buffer : (s.setResetN v).buffer = s.buffer := rfl
@[simp] theorem State.setResetN_holder : (s.setResetN v).holder = s.holder := rfl
@[simp] theorem State.setResetN_sentParity : (s.setResetN v).sentParity = s.sentParity := rfl
@[simp] theorem State.setResetN_sent : (s.setResetN v).sent = s.sent := rfl
@[simp] theorem State.setResetN_monitor : (s.setResetN v).monitor = s.monitor := rfl
@[simp] theorem State.setResetN_condition : (s.setResetN v).condition = s.condition := rfl
@[simp] theorem State.setResetN_park : (s.setResetN v).park = s.park := rfl
@[simp] theorem State.setResetN_signalling : (s.setResetN v).signalling = s.signalling := rfl
@[simp] theorem State.setResetN_resolver : (s.setResetN v).resolver = s.resolver := rfl
@[simp] theorem State.setResetN_engine : (s.setResetN v).engine = s.engine := rfl
@[simp] theorem State.setResetN_identity : (s.setResetN v).identity = s.identity := rfl
@[simp] theorem State.setResetN_ringMap : (s.setResetN v).ringMap = s.ringMap := rfl
@[simp] theorem State.setResetN_profile : (s.setResetN v).profile = s.profile := rfl
@[simp] theorem State.setResetN_tables : (s.setResetN v).tables = s.tables := rfl
@[simp] theorem State.setResetN_squelch : (s.setResetN v).squelch = s.squelch := rfl
@[simp] theorem State.setResetN_requests : (s.setResetN v).requests = s.requests := rfl
@[simp] theorem State.setResetN_transmit : (s.setResetN v).transmit = s.transmit := rfl
@[simp] theorem State.setResetN_pointer : (s.setResetN v).pointer = s.pointer := rfl
@[simp] theorem State.setResetN_events : (s.setResetN v).events = s.events := rfl
@[simp] theorem State.setResetN_counters : (s.setResetN v).counters = s.counters := rfl
@[simp] theorem State.setResetN_alertN : (s.setResetN v).alertN = s.alertN := rfl
@[simp] theorem State.setResetN_pending : (s.setResetN v).pending = s.pending := rfl
end

section
variable (v : Sides Bool)
@[simp] theorem State.setLosPin_resetN : (s.setLosPin v).resetN = s.resetN := rfl
@[simp] theorem State.setLosPin_losPin : (s.setLosPin v).losPin = v := rfl
@[simp] theorem State.setLosPin_frameCount : (s.setLosPin v).frameCount = s.frameCount := rfl
@[simp] theorem State.setLosPin_instant : (s.setLosPin v).instant = s.instant := rfl
@[simp] theorem State.setLosPin_receiver : (s.setLosPin v).receiver = s.receiver := rfl
@[simp] theorem State.setLosPin_buffer : (s.setLosPin v).buffer = s.buffer := rfl
@[simp] theorem State.setLosPin_holder : (s.setLosPin v).holder = s.holder := rfl
@[simp] theorem State.setLosPin_sentParity : (s.setLosPin v).sentParity = s.sentParity := rfl
@[simp] theorem State.setLosPin_sent : (s.setLosPin v).sent = s.sent := rfl
@[simp] theorem State.setLosPin_monitor : (s.setLosPin v).monitor = s.monitor := rfl
@[simp] theorem State.setLosPin_condition : (s.setLosPin v).condition = s.condition := rfl
@[simp] theorem State.setLosPin_park : (s.setLosPin v).park = s.park := rfl
@[simp] theorem State.setLosPin_signalling : (s.setLosPin v).signalling = s.signalling := rfl
@[simp] theorem State.setLosPin_resolver : (s.setLosPin v).resolver = s.resolver := rfl
@[simp] theorem State.setLosPin_engine : (s.setLosPin v).engine = s.engine := rfl
@[simp] theorem State.setLosPin_identity : (s.setLosPin v).identity = s.identity := rfl
@[simp] theorem State.setLosPin_ringMap : (s.setLosPin v).ringMap = s.ringMap := rfl
@[simp] theorem State.setLosPin_profile : (s.setLosPin v).profile = s.profile := rfl
@[simp] theorem State.setLosPin_tables : (s.setLosPin v).tables = s.tables := rfl
@[simp] theorem State.setLosPin_squelch : (s.setLosPin v).squelch = s.squelch := rfl
@[simp] theorem State.setLosPin_requests : (s.setLosPin v).requests = s.requests := rfl
@[simp] theorem State.setLosPin_transmit : (s.setLosPin v).transmit = s.transmit := rfl
@[simp] theorem State.setLosPin_pointer : (s.setLosPin v).pointer = s.pointer := rfl
@[simp] theorem State.setLosPin_events : (s.setLosPin v).events = s.events := rfl
@[simp] theorem State.setLosPin_counters : (s.setLosPin v).counters = s.counters := rfl
@[simp] theorem State.setLosPin_alertN : (s.setLosPin v).alertN = s.alertN := rfl
@[simp] theorem State.setLosPin_pending : (s.setLosPin v).pending = s.pending := rfl
end

section
variable (v : Word)
@[simp] theorem State.setFrameCount_resetN : (s.setFrameCount v).resetN = s.resetN := rfl
@[simp] theorem State.setFrameCount_losPin : (s.setFrameCount v).losPin = s.losPin := rfl
@[simp] theorem State.setFrameCount_frameCount : (s.setFrameCount v).frameCount = v := rfl
@[simp] theorem State.setFrameCount_instant : (s.setFrameCount v).instant = s.instant := rfl
@[simp] theorem State.setFrameCount_receiver : (s.setFrameCount v).receiver = s.receiver := rfl
@[simp] theorem State.setFrameCount_buffer : (s.setFrameCount v).buffer = s.buffer := rfl
@[simp] theorem State.setFrameCount_holder : (s.setFrameCount v).holder = s.holder := rfl
@[simp] theorem State.setFrameCount_sentParity : (s.setFrameCount v).sentParity = s.sentParity := rfl
@[simp] theorem State.setFrameCount_sent : (s.setFrameCount v).sent = s.sent := rfl
@[simp] theorem State.setFrameCount_monitor : (s.setFrameCount v).monitor = s.monitor := rfl
@[simp] theorem State.setFrameCount_condition : (s.setFrameCount v).condition = s.condition := rfl
@[simp] theorem State.setFrameCount_park : (s.setFrameCount v).park = s.park := rfl
@[simp] theorem State.setFrameCount_signalling : (s.setFrameCount v).signalling = s.signalling := rfl
@[simp] theorem State.setFrameCount_resolver : (s.setFrameCount v).resolver = s.resolver := rfl
@[simp] theorem State.setFrameCount_engine : (s.setFrameCount v).engine = s.engine := rfl
@[simp] theorem State.setFrameCount_identity : (s.setFrameCount v).identity = s.identity := rfl
@[simp] theorem State.setFrameCount_ringMap : (s.setFrameCount v).ringMap = s.ringMap := rfl
@[simp] theorem State.setFrameCount_profile : (s.setFrameCount v).profile = s.profile := rfl
@[simp] theorem State.setFrameCount_tables : (s.setFrameCount v).tables = s.tables := rfl
@[simp] theorem State.setFrameCount_squelch : (s.setFrameCount v).squelch = s.squelch := rfl
@[simp] theorem State.setFrameCount_requests : (s.setFrameCount v).requests = s.requests := rfl
@[simp] theorem State.setFrameCount_transmit : (s.setFrameCount v).transmit = s.transmit := rfl
@[simp] theorem State.setFrameCount_pointer : (s.setFrameCount v).pointer = s.pointer := rfl
@[simp] theorem State.setFrameCount_events : (s.setFrameCount v).events = s.events := rfl
@[simp] theorem State.setFrameCount_counters : (s.setFrameCount v).counters = s.counters := rfl
@[simp] theorem State.setFrameCount_alertN : (s.setFrameCount v).alertN = s.alertN := rfl
@[simp] theorem State.setFrameCount_pending : (s.setFrameCount v).pending = s.pending := rfl
end

section
variable (v : FrameInstant)
@[simp] theorem State.setInstant_resetN : (s.setInstant v).resetN = s.resetN := rfl
@[simp] theorem State.setInstant_losPin : (s.setInstant v).losPin = s.losPin := rfl
@[simp] theorem State.setInstant_frameCount : (s.setInstant v).frameCount = s.frameCount := rfl
@[simp] theorem State.setInstant_instant : (s.setInstant v).instant = v := rfl
@[simp] theorem State.setInstant_receiver : (s.setInstant v).receiver = s.receiver := rfl
@[simp] theorem State.setInstant_buffer : (s.setInstant v).buffer = s.buffer := rfl
@[simp] theorem State.setInstant_holder : (s.setInstant v).holder = s.holder := rfl
@[simp] theorem State.setInstant_sentParity : (s.setInstant v).sentParity = s.sentParity := rfl
@[simp] theorem State.setInstant_sent : (s.setInstant v).sent = s.sent := rfl
@[simp] theorem State.setInstant_monitor : (s.setInstant v).monitor = s.monitor := rfl
@[simp] theorem State.setInstant_condition : (s.setInstant v).condition = s.condition := rfl
@[simp] theorem State.setInstant_park : (s.setInstant v).park = s.park := rfl
@[simp] theorem State.setInstant_signalling : (s.setInstant v).signalling = s.signalling := rfl
@[simp] theorem State.setInstant_resolver : (s.setInstant v).resolver = s.resolver := rfl
@[simp] theorem State.setInstant_engine : (s.setInstant v).engine = s.engine := rfl
@[simp] theorem State.setInstant_identity : (s.setInstant v).identity = s.identity := rfl
@[simp] theorem State.setInstant_ringMap : (s.setInstant v).ringMap = s.ringMap := rfl
@[simp] theorem State.setInstant_profile : (s.setInstant v).profile = s.profile := rfl
@[simp] theorem State.setInstant_tables : (s.setInstant v).tables = s.tables := rfl
@[simp] theorem State.setInstant_squelch : (s.setInstant v).squelch = s.squelch := rfl
@[simp] theorem State.setInstant_requests : (s.setInstant v).requests = s.requests := rfl
@[simp] theorem State.setInstant_transmit : (s.setInstant v).transmit = s.transmit := rfl
@[simp] theorem State.setInstant_pointer : (s.setInstant v).pointer = s.pointer := rfl
@[simp] theorem State.setInstant_events : (s.setInstant v).events = s.events := rfl
@[simp] theorem State.setInstant_counters : (s.setInstant v).counters = s.counters := rfl
@[simp] theorem State.setInstant_alertN : (s.setInstant v).alertN = s.alertN := rfl
@[simp] theorem State.setInstant_pending : (s.setInstant v).pending = s.pending := rfl
end

section
variable (v : Sides Receiver)
@[simp] theorem State.setReceiver_resetN : (s.setReceiver v).resetN = s.resetN := rfl
@[simp] theorem State.setReceiver_losPin : (s.setReceiver v).losPin = s.losPin := rfl
@[simp] theorem State.setReceiver_frameCount : (s.setReceiver v).frameCount = s.frameCount := rfl
@[simp] theorem State.setReceiver_instant : (s.setReceiver v).instant = s.instant := rfl
@[simp] theorem State.setReceiver_receiver : (s.setReceiver v).receiver = v := rfl
@[simp] theorem State.setReceiver_buffer : (s.setReceiver v).buffer = s.buffer := rfl
@[simp] theorem State.setReceiver_holder : (s.setReceiver v).holder = s.holder := rfl
@[simp] theorem State.setReceiver_sentParity : (s.setReceiver v).sentParity = s.sentParity := rfl
@[simp] theorem State.setReceiver_sent : (s.setReceiver v).sent = s.sent := rfl
@[simp] theorem State.setReceiver_monitor : (s.setReceiver v).monitor = s.monitor := rfl
@[simp] theorem State.setReceiver_condition : (s.setReceiver v).condition = s.condition := rfl
@[simp] theorem State.setReceiver_park : (s.setReceiver v).park = s.park := rfl
@[simp] theorem State.setReceiver_signalling : (s.setReceiver v).signalling = s.signalling := rfl
@[simp] theorem State.setReceiver_resolver : (s.setReceiver v).resolver = s.resolver := rfl
@[simp] theorem State.setReceiver_engine : (s.setReceiver v).engine = s.engine := rfl
@[simp] theorem State.setReceiver_identity : (s.setReceiver v).identity = s.identity := rfl
@[simp] theorem State.setReceiver_ringMap : (s.setReceiver v).ringMap = s.ringMap := rfl
@[simp] theorem State.setReceiver_profile : (s.setReceiver v).profile = s.profile := rfl
@[simp] theorem State.setReceiver_tables : (s.setReceiver v).tables = s.tables := rfl
@[simp] theorem State.setReceiver_squelch : (s.setReceiver v).squelch = s.squelch := rfl
@[simp] theorem State.setReceiver_requests : (s.setReceiver v).requests = s.requests := rfl
@[simp] theorem State.setReceiver_transmit : (s.setReceiver v).transmit = s.transmit := rfl
@[simp] theorem State.setReceiver_pointer : (s.setReceiver v).pointer = s.pointer := rfl
@[simp] theorem State.setReceiver_events : (s.setReceiver v).events = s.events := rfl
@[simp] theorem State.setReceiver_counters : (s.setReceiver v).counters = s.counters := rfl
@[simp] theorem State.setReceiver_alertN : (s.setReceiver v).alertN = s.alertN := rfl
@[simp] theorem State.setReceiver_pending : (s.setReceiver v).pending = s.pending := rfl
end

section
variable (v : Sides Buffer)
@[simp] theorem State.setBuffer_resetN : (s.setBuffer v).resetN = s.resetN := rfl
@[simp] theorem State.setBuffer_losPin : (s.setBuffer v).losPin = s.losPin := rfl
@[simp] theorem State.setBuffer_frameCount : (s.setBuffer v).frameCount = s.frameCount := rfl
@[simp] theorem State.setBuffer_instant : (s.setBuffer v).instant = s.instant := rfl
@[simp] theorem State.setBuffer_receiver : (s.setBuffer v).receiver = s.receiver := rfl
@[simp] theorem State.setBuffer_buffer : (s.setBuffer v).buffer = v := rfl
@[simp] theorem State.setBuffer_holder : (s.setBuffer v).holder = s.holder := rfl
@[simp] theorem State.setBuffer_sentParity : (s.setBuffer v).sentParity = s.sentParity := rfl
@[simp] theorem State.setBuffer_sent : (s.setBuffer v).sent = s.sent := rfl
@[simp] theorem State.setBuffer_monitor : (s.setBuffer v).monitor = s.monitor := rfl
@[simp] theorem State.setBuffer_condition : (s.setBuffer v).condition = s.condition := rfl
@[simp] theorem State.setBuffer_park : (s.setBuffer v).park = s.park := rfl
@[simp] theorem State.setBuffer_signalling : (s.setBuffer v).signalling = s.signalling := rfl
@[simp] theorem State.setBuffer_resolver : (s.setBuffer v).resolver = s.resolver := rfl
@[simp] theorem State.setBuffer_engine : (s.setBuffer v).engine = s.engine := rfl
@[simp] theorem State.setBuffer_identity : (s.setBuffer v).identity = s.identity := rfl
@[simp] theorem State.setBuffer_ringMap : (s.setBuffer v).ringMap = s.ringMap := rfl
@[simp] theorem State.setBuffer_profile : (s.setBuffer v).profile = s.profile := rfl
@[simp] theorem State.setBuffer_tables : (s.setBuffer v).tables = s.tables := rfl
@[simp] theorem State.setBuffer_squelch : (s.setBuffer v).squelch = s.squelch := rfl
@[simp] theorem State.setBuffer_requests : (s.setBuffer v).requests = s.requests := rfl
@[simp] theorem State.setBuffer_transmit : (s.setBuffer v).transmit = s.transmit := rfl
@[simp] theorem State.setBuffer_pointer : (s.setBuffer v).pointer = s.pointer := rfl
@[simp] theorem State.setBuffer_events : (s.setBuffer v).events = s.events := rfl
@[simp] theorem State.setBuffer_counters : (s.setBuffer v).counters = s.counters := rfl
@[simp] theorem State.setBuffer_alertN : (s.setBuffer v).alertN = s.alertN := rfl
@[simp] theorem State.setBuffer_pending : (s.setBuffer v).pending = s.pending := rfl
end

section
variable (v : Option (Vector Slot 64))
@[simp] theorem State.setHolder_resetN : (s.setHolder v).resetN = s.resetN := rfl
@[simp] theorem State.setHolder_losPin : (s.setHolder v).losPin = s.losPin := rfl
@[simp] theorem State.setHolder_frameCount : (s.setHolder v).frameCount = s.frameCount := rfl
@[simp] theorem State.setHolder_instant : (s.setHolder v).instant = s.instant := rfl
@[simp] theorem State.setHolder_receiver : (s.setHolder v).receiver = s.receiver := rfl
@[simp] theorem State.setHolder_buffer : (s.setHolder v).buffer = s.buffer := rfl
@[simp] theorem State.setHolder_holder : (s.setHolder v).holder = v := rfl
@[simp] theorem State.setHolder_sentParity : (s.setHolder v).sentParity = s.sentParity := rfl
@[simp] theorem State.setHolder_sent : (s.setHolder v).sent = s.sent := rfl
@[simp] theorem State.setHolder_monitor : (s.setHolder v).monitor = s.monitor := rfl
@[simp] theorem State.setHolder_condition : (s.setHolder v).condition = s.condition := rfl
@[simp] theorem State.setHolder_park : (s.setHolder v).park = s.park := rfl
@[simp] theorem State.setHolder_signalling : (s.setHolder v).signalling = s.signalling := rfl
@[simp] theorem State.setHolder_resolver : (s.setHolder v).resolver = s.resolver := rfl
@[simp] theorem State.setHolder_engine : (s.setHolder v).engine = s.engine := rfl
@[simp] theorem State.setHolder_identity : (s.setHolder v).identity = s.identity := rfl
@[simp] theorem State.setHolder_ringMap : (s.setHolder v).ringMap = s.ringMap := rfl
@[simp] theorem State.setHolder_profile : (s.setHolder v).profile = s.profile := rfl
@[simp] theorem State.setHolder_tables : (s.setHolder v).tables = s.tables := rfl
@[simp] theorem State.setHolder_squelch : (s.setHolder v).squelch = s.squelch := rfl
@[simp] theorem State.setHolder_requests : (s.setHolder v).requests = s.requests := rfl
@[simp] theorem State.setHolder_transmit : (s.setHolder v).transmit = s.transmit := rfl
@[simp] theorem State.setHolder_pointer : (s.setHolder v).pointer = s.pointer := rfl
@[simp] theorem State.setHolder_events : (s.setHolder v).events = s.events := rfl
@[simp] theorem State.setHolder_counters : (s.setHolder v).counters = s.counters := rfl
@[simp] theorem State.setHolder_alertN : (s.setHolder v).alertN = s.alertN := rfl
@[simp] theorem State.setHolder_pending : (s.setHolder v).pending = s.pending := rfl
end

section
variable (v : Sides Word)
@[simp] theorem State.setSentParity_resetN : (s.setSentParity v).resetN = s.resetN := rfl
@[simp] theorem State.setSentParity_losPin : (s.setSentParity v).losPin = s.losPin := rfl
@[simp] theorem State.setSentParity_frameCount : (s.setSentParity v).frameCount = s.frameCount := rfl
@[simp] theorem State.setSentParity_instant : (s.setSentParity v).instant = s.instant := rfl
@[simp] theorem State.setSentParity_receiver : (s.setSentParity v).receiver = s.receiver := rfl
@[simp] theorem State.setSentParity_buffer : (s.setSentParity v).buffer = s.buffer := rfl
@[simp] theorem State.setSentParity_holder : (s.setSentParity v).holder = s.holder := rfl
@[simp] theorem State.setSentParity_sentParity : (s.setSentParity v).sentParity = v := rfl
@[simp] theorem State.setSentParity_sent : (s.setSentParity v).sent = s.sent := rfl
@[simp] theorem State.setSentParity_monitor : (s.setSentParity v).monitor = s.monitor := rfl
@[simp] theorem State.setSentParity_condition : (s.setSentParity v).condition = s.condition := rfl
@[simp] theorem State.setSentParity_park : (s.setSentParity v).park = s.park := rfl
@[simp] theorem State.setSentParity_signalling : (s.setSentParity v).signalling = s.signalling := rfl
@[simp] theorem State.setSentParity_resolver : (s.setSentParity v).resolver = s.resolver := rfl
@[simp] theorem State.setSentParity_engine : (s.setSentParity v).engine = s.engine := rfl
@[simp] theorem State.setSentParity_identity : (s.setSentParity v).identity = s.identity := rfl
@[simp] theorem State.setSentParity_ringMap : (s.setSentParity v).ringMap = s.ringMap := rfl
@[simp] theorem State.setSentParity_profile : (s.setSentParity v).profile = s.profile := rfl
@[simp] theorem State.setSentParity_tables : (s.setSentParity v).tables = s.tables := rfl
@[simp] theorem State.setSentParity_squelch : (s.setSentParity v).squelch = s.squelch := rfl
@[simp] theorem State.setSentParity_requests : (s.setSentParity v).requests = s.requests := rfl
@[simp] theorem State.setSentParity_transmit : (s.setSentParity v).transmit = s.transmit := rfl
@[simp] theorem State.setSentParity_pointer : (s.setSentParity v).pointer = s.pointer := rfl
@[simp] theorem State.setSentParity_events : (s.setSentParity v).events = s.events := rfl
@[simp] theorem State.setSentParity_counters : (s.setSentParity v).counters = s.counters := rfl
@[simp] theorem State.setSentParity_alertN : (s.setSentParity v).alertN = s.alertN := rfl
@[simp] theorem State.setSentParity_pending : (s.setSentParity v).pending = s.pending := rfl
end

section
variable (v : Option SentFrames)
@[simp] theorem State.setSent_resetN : (s.setSent v).resetN = s.resetN := rfl
@[simp] theorem State.setSent_losPin : (s.setSent v).losPin = s.losPin := rfl
@[simp] theorem State.setSent_frameCount : (s.setSent v).frameCount = s.frameCount := rfl
@[simp] theorem State.setSent_instant : (s.setSent v).instant = s.instant := rfl
@[simp] theorem State.setSent_receiver : (s.setSent v).receiver = s.receiver := rfl
@[simp] theorem State.setSent_buffer : (s.setSent v).buffer = s.buffer := rfl
@[simp] theorem State.setSent_holder : (s.setSent v).holder = s.holder := rfl
@[simp] theorem State.setSent_sentParity : (s.setSent v).sentParity = s.sentParity := rfl
@[simp] theorem State.setSent_sent : (s.setSent v).sent = v := rfl
@[simp] theorem State.setSent_monitor : (s.setSent v).monitor = s.monitor := rfl
@[simp] theorem State.setSent_condition : (s.setSent v).condition = s.condition := rfl
@[simp] theorem State.setSent_park : (s.setSent v).park = s.park := rfl
@[simp] theorem State.setSent_signalling : (s.setSent v).signalling = s.signalling := rfl
@[simp] theorem State.setSent_resolver : (s.setSent v).resolver = s.resolver := rfl
@[simp] theorem State.setSent_engine : (s.setSent v).engine = s.engine := rfl
@[simp] theorem State.setSent_identity : (s.setSent v).identity = s.identity := rfl
@[simp] theorem State.setSent_ringMap : (s.setSent v).ringMap = s.ringMap := rfl
@[simp] theorem State.setSent_profile : (s.setSent v).profile = s.profile := rfl
@[simp] theorem State.setSent_tables : (s.setSent v).tables = s.tables := rfl
@[simp] theorem State.setSent_squelch : (s.setSent v).squelch = s.squelch := rfl
@[simp] theorem State.setSent_requests : (s.setSent v).requests = s.requests := rfl
@[simp] theorem State.setSent_transmit : (s.setSent v).transmit = s.transmit := rfl
@[simp] theorem State.setSent_pointer : (s.setSent v).pointer = s.pointer := rfl
@[simp] theorem State.setSent_events : (s.setSent v).events = s.events := rfl
@[simp] theorem State.setSent_counters : (s.setSent v).counters = s.counters := rfl
@[simp] theorem State.setSent_alertN : (s.setSent v).alertN = s.alertN := rfl
@[simp] theorem State.setSent_pending : (s.setSent v).pending = s.pending := rfl
end

section
variable (v : Sides Monitor)
@[simp] theorem State.setMonitor_resetN : (s.setMonitor v).resetN = s.resetN := rfl
@[simp] theorem State.setMonitor_losPin : (s.setMonitor v).losPin = s.losPin := rfl
@[simp] theorem State.setMonitor_frameCount : (s.setMonitor v).frameCount = s.frameCount := rfl
@[simp] theorem State.setMonitor_instant : (s.setMonitor v).instant = s.instant := rfl
@[simp] theorem State.setMonitor_receiver : (s.setMonitor v).receiver = s.receiver := rfl
@[simp] theorem State.setMonitor_buffer : (s.setMonitor v).buffer = s.buffer := rfl
@[simp] theorem State.setMonitor_holder : (s.setMonitor v).holder = s.holder := rfl
@[simp] theorem State.setMonitor_sentParity : (s.setMonitor v).sentParity = s.sentParity := rfl
@[simp] theorem State.setMonitor_sent : (s.setMonitor v).sent = s.sent := rfl
@[simp] theorem State.setMonitor_monitor : (s.setMonitor v).monitor = v := rfl
@[simp] theorem State.setMonitor_condition : (s.setMonitor v).condition = s.condition := rfl
@[simp] theorem State.setMonitor_park : (s.setMonitor v).park = s.park := rfl
@[simp] theorem State.setMonitor_signalling : (s.setMonitor v).signalling = s.signalling := rfl
@[simp] theorem State.setMonitor_resolver : (s.setMonitor v).resolver = s.resolver := rfl
@[simp] theorem State.setMonitor_engine : (s.setMonitor v).engine = s.engine := rfl
@[simp] theorem State.setMonitor_identity : (s.setMonitor v).identity = s.identity := rfl
@[simp] theorem State.setMonitor_ringMap : (s.setMonitor v).ringMap = s.ringMap := rfl
@[simp] theorem State.setMonitor_profile : (s.setMonitor v).profile = s.profile := rfl
@[simp] theorem State.setMonitor_tables : (s.setMonitor v).tables = s.tables := rfl
@[simp] theorem State.setMonitor_squelch : (s.setMonitor v).squelch = s.squelch := rfl
@[simp] theorem State.setMonitor_requests : (s.setMonitor v).requests = s.requests := rfl
@[simp] theorem State.setMonitor_transmit : (s.setMonitor v).transmit = s.transmit := rfl
@[simp] theorem State.setMonitor_pointer : (s.setMonitor v).pointer = s.pointer := rfl
@[simp] theorem State.setMonitor_events : (s.setMonitor v).events = s.events := rfl
@[simp] theorem State.setMonitor_counters : (s.setMonitor v).counters = s.counters := rfl
@[simp] theorem State.setMonitor_alertN : (s.setMonitor v).alertN = s.alertN := rfl
@[simp] theorem State.setMonitor_pending : (s.setMonitor v).pending = s.pending := rfl
end

section
variable (v : Sides ConditionSide)
@[simp] theorem State.setCondition_resetN : (s.setCondition v).resetN = s.resetN := rfl
@[simp] theorem State.setCondition_losPin : (s.setCondition v).losPin = s.losPin := rfl
@[simp] theorem State.setCondition_frameCount : (s.setCondition v).frameCount = s.frameCount := rfl
@[simp] theorem State.setCondition_instant : (s.setCondition v).instant = s.instant := rfl
@[simp] theorem State.setCondition_receiver : (s.setCondition v).receiver = s.receiver := rfl
@[simp] theorem State.setCondition_buffer : (s.setCondition v).buffer = s.buffer := rfl
@[simp] theorem State.setCondition_holder : (s.setCondition v).holder = s.holder := rfl
@[simp] theorem State.setCondition_sentParity : (s.setCondition v).sentParity = s.sentParity := rfl
@[simp] theorem State.setCondition_sent : (s.setCondition v).sent = s.sent := rfl
@[simp] theorem State.setCondition_monitor : (s.setCondition v).monitor = s.monitor := rfl
@[simp] theorem State.setCondition_condition : (s.setCondition v).condition = v := rfl
@[simp] theorem State.setCondition_park : (s.setCondition v).park = s.park := rfl
@[simp] theorem State.setCondition_signalling : (s.setCondition v).signalling = s.signalling := rfl
@[simp] theorem State.setCondition_resolver : (s.setCondition v).resolver = s.resolver := rfl
@[simp] theorem State.setCondition_engine : (s.setCondition v).engine = s.engine := rfl
@[simp] theorem State.setCondition_identity : (s.setCondition v).identity = s.identity := rfl
@[simp] theorem State.setCondition_ringMap : (s.setCondition v).ringMap = s.ringMap := rfl
@[simp] theorem State.setCondition_profile : (s.setCondition v).profile = s.profile := rfl
@[simp] theorem State.setCondition_tables : (s.setCondition v).tables = s.tables := rfl
@[simp] theorem State.setCondition_squelch : (s.setCondition v).squelch = s.squelch := rfl
@[simp] theorem State.setCondition_requests : (s.setCondition v).requests = s.requests := rfl
@[simp] theorem State.setCondition_transmit : (s.setCondition v).transmit = s.transmit := rfl
@[simp] theorem State.setCondition_pointer : (s.setCondition v).pointer = s.pointer := rfl
@[simp] theorem State.setCondition_events : (s.setCondition v).events = s.events := rfl
@[simp] theorem State.setCondition_counters : (s.setCondition v).counters = s.counters := rfl
@[simp] theorem State.setCondition_alertN : (s.setCondition v).alertN = s.alertN := rfl
@[simp] theorem State.setCondition_pending : (s.setCondition v).pending = s.pending := rfl
end

section
variable (v : Bool)
@[simp] theorem State.setPark_resetN : (s.setPark v).resetN = s.resetN := rfl
@[simp] theorem State.setPark_losPin : (s.setPark v).losPin = s.losPin := rfl
@[simp] theorem State.setPark_frameCount : (s.setPark v).frameCount = s.frameCount := rfl
@[simp] theorem State.setPark_instant : (s.setPark v).instant = s.instant := rfl
@[simp] theorem State.setPark_receiver : (s.setPark v).receiver = s.receiver := rfl
@[simp] theorem State.setPark_buffer : (s.setPark v).buffer = s.buffer := rfl
@[simp] theorem State.setPark_holder : (s.setPark v).holder = s.holder := rfl
@[simp] theorem State.setPark_sentParity : (s.setPark v).sentParity = s.sentParity := rfl
@[simp] theorem State.setPark_sent : (s.setPark v).sent = s.sent := rfl
@[simp] theorem State.setPark_monitor : (s.setPark v).monitor = s.monitor := rfl
@[simp] theorem State.setPark_condition : (s.setPark v).condition = s.condition := rfl
@[simp] theorem State.setPark_park : (s.setPark v).park = v := rfl
@[simp] theorem State.setPark_signalling : (s.setPark v).signalling = s.signalling := rfl
@[simp] theorem State.setPark_resolver : (s.setPark v).resolver = s.resolver := rfl
@[simp] theorem State.setPark_engine : (s.setPark v).engine = s.engine := rfl
@[simp] theorem State.setPark_identity : (s.setPark v).identity = s.identity := rfl
@[simp] theorem State.setPark_ringMap : (s.setPark v).ringMap = s.ringMap := rfl
@[simp] theorem State.setPark_profile : (s.setPark v).profile = s.profile := rfl
@[simp] theorem State.setPark_tables : (s.setPark v).tables = s.tables := rfl
@[simp] theorem State.setPark_squelch : (s.setPark v).squelch = s.squelch := rfl
@[simp] theorem State.setPark_requests : (s.setPark v).requests = s.requests := rfl
@[simp] theorem State.setPark_transmit : (s.setPark v).transmit = s.transmit := rfl
@[simp] theorem State.setPark_pointer : (s.setPark v).pointer = s.pointer := rfl
@[simp] theorem State.setPark_events : (s.setPark v).events = s.events := rfl
@[simp] theorem State.setPark_counters : (s.setPark v).counters = s.counters := rfl
@[simp] theorem State.setPark_alertN : (s.setPark v).alertN = s.alertN := rfl
@[simp] theorem State.setPark_pending : (s.setPark v).pending = s.pending := rfl
end

section
variable (v : Signalling)
@[simp] theorem State.setSignalling_resetN : (s.setSignalling v).resetN = s.resetN := rfl
@[simp] theorem State.setSignalling_losPin : (s.setSignalling v).losPin = s.losPin := rfl
@[simp] theorem State.setSignalling_frameCount : (s.setSignalling v).frameCount = s.frameCount := rfl
@[simp] theorem State.setSignalling_instant : (s.setSignalling v).instant = s.instant := rfl
@[simp] theorem State.setSignalling_receiver : (s.setSignalling v).receiver = s.receiver := rfl
@[simp] theorem State.setSignalling_buffer : (s.setSignalling v).buffer = s.buffer := rfl
@[simp] theorem State.setSignalling_holder : (s.setSignalling v).holder = s.holder := rfl
@[simp] theorem State.setSignalling_sentParity : (s.setSignalling v).sentParity = s.sentParity := rfl
@[simp] theorem State.setSignalling_sent : (s.setSignalling v).sent = s.sent := rfl
@[simp] theorem State.setSignalling_monitor : (s.setSignalling v).monitor = s.monitor := rfl
@[simp] theorem State.setSignalling_condition : (s.setSignalling v).condition = s.condition := rfl
@[simp] theorem State.setSignalling_park : (s.setSignalling v).park = s.park := rfl
@[simp] theorem State.setSignalling_signalling : (s.setSignalling v).signalling = v := rfl
@[simp] theorem State.setSignalling_resolver : (s.setSignalling v).resolver = s.resolver := rfl
@[simp] theorem State.setSignalling_engine : (s.setSignalling v).engine = s.engine := rfl
@[simp] theorem State.setSignalling_identity : (s.setSignalling v).identity = s.identity := rfl
@[simp] theorem State.setSignalling_ringMap : (s.setSignalling v).ringMap = s.ringMap := rfl
@[simp] theorem State.setSignalling_profile : (s.setSignalling v).profile = s.profile := rfl
@[simp] theorem State.setSignalling_tables : (s.setSignalling v).tables = s.tables := rfl
@[simp] theorem State.setSignalling_squelch : (s.setSignalling v).squelch = s.squelch := rfl
@[simp] theorem State.setSignalling_requests : (s.setSignalling v).requests = s.requests := rfl
@[simp] theorem State.setSignalling_transmit : (s.setSignalling v).transmit = s.transmit := rfl
@[simp] theorem State.setSignalling_pointer : (s.setSignalling v).pointer = s.pointer := rfl
@[simp] theorem State.setSignalling_events : (s.setSignalling v).events = s.events := rfl
@[simp] theorem State.setSignalling_counters : (s.setSignalling v).counters = s.counters := rfl
@[simp] theorem State.setSignalling_alertN : (s.setSignalling v).alertN = s.alertN := rfl
@[simp] theorem State.setSignalling_pending : (s.setSignalling v).pending = s.pending := rfl
end

section
variable (v : Resolver)
@[simp] theorem State.setResolver_resetN : (s.setResolver v).resetN = s.resetN := rfl
@[simp] theorem State.setResolver_losPin : (s.setResolver v).losPin = s.losPin := rfl
@[simp] theorem State.setResolver_frameCount : (s.setResolver v).frameCount = s.frameCount := rfl
@[simp] theorem State.setResolver_instant : (s.setResolver v).instant = s.instant := rfl
@[simp] theorem State.setResolver_receiver : (s.setResolver v).receiver = s.receiver := rfl
@[simp] theorem State.setResolver_buffer : (s.setResolver v).buffer = s.buffer := rfl
@[simp] theorem State.setResolver_holder : (s.setResolver v).holder = s.holder := rfl
@[simp] theorem State.setResolver_sentParity : (s.setResolver v).sentParity = s.sentParity := rfl
@[simp] theorem State.setResolver_sent : (s.setResolver v).sent = s.sent := rfl
@[simp] theorem State.setResolver_monitor : (s.setResolver v).monitor = s.monitor := rfl
@[simp] theorem State.setResolver_condition : (s.setResolver v).condition = s.condition := rfl
@[simp] theorem State.setResolver_park : (s.setResolver v).park = s.park := rfl
@[simp] theorem State.setResolver_signalling : (s.setResolver v).signalling = s.signalling := rfl
@[simp] theorem State.setResolver_resolver : (s.setResolver v).resolver = v := rfl
@[simp] theorem State.setResolver_engine : (s.setResolver v).engine = s.engine := rfl
@[simp] theorem State.setResolver_identity : (s.setResolver v).identity = s.identity := rfl
@[simp] theorem State.setResolver_ringMap : (s.setResolver v).ringMap = s.ringMap := rfl
@[simp] theorem State.setResolver_profile : (s.setResolver v).profile = s.profile := rfl
@[simp] theorem State.setResolver_tables : (s.setResolver v).tables = s.tables := rfl
@[simp] theorem State.setResolver_squelch : (s.setResolver v).squelch = s.squelch := rfl
@[simp] theorem State.setResolver_requests : (s.setResolver v).requests = s.requests := rfl
@[simp] theorem State.setResolver_transmit : (s.setResolver v).transmit = s.transmit := rfl
@[simp] theorem State.setResolver_pointer : (s.setResolver v).pointer = s.pointer := rfl
@[simp] theorem State.setResolver_events : (s.setResolver v).events = s.events := rfl
@[simp] theorem State.setResolver_counters : (s.setResolver v).counters = s.counters := rfl
@[simp] theorem State.setResolver_alertN : (s.setResolver v).alertN = s.alertN := rfl
@[simp] theorem State.setResolver_pending : (s.setResolver v).pending = s.pending := rfl
end

section
variable (v : Sides Engine)
@[simp] theorem State.setEngine_resetN : (s.setEngine v).resetN = s.resetN := rfl
@[simp] theorem State.setEngine_losPin : (s.setEngine v).losPin = s.losPin := rfl
@[simp] theorem State.setEngine_frameCount : (s.setEngine v).frameCount = s.frameCount := rfl
@[simp] theorem State.setEngine_instant : (s.setEngine v).instant = s.instant := rfl
@[simp] theorem State.setEngine_receiver : (s.setEngine v).receiver = s.receiver := rfl
@[simp] theorem State.setEngine_buffer : (s.setEngine v).buffer = s.buffer := rfl
@[simp] theorem State.setEngine_holder : (s.setEngine v).holder = s.holder := rfl
@[simp] theorem State.setEngine_sentParity : (s.setEngine v).sentParity = s.sentParity := rfl
@[simp] theorem State.setEngine_sent : (s.setEngine v).sent = s.sent := rfl
@[simp] theorem State.setEngine_monitor : (s.setEngine v).monitor = s.monitor := rfl
@[simp] theorem State.setEngine_condition : (s.setEngine v).condition = s.condition := rfl
@[simp] theorem State.setEngine_park : (s.setEngine v).park = s.park := rfl
@[simp] theorem State.setEngine_signalling : (s.setEngine v).signalling = s.signalling := rfl
@[simp] theorem State.setEngine_resolver : (s.setEngine v).resolver = s.resolver := rfl
@[simp] theorem State.setEngine_engine : (s.setEngine v).engine = v := rfl
@[simp] theorem State.setEngine_identity : (s.setEngine v).identity = s.identity := rfl
@[simp] theorem State.setEngine_ringMap : (s.setEngine v).ringMap = s.ringMap := rfl
@[simp] theorem State.setEngine_profile : (s.setEngine v).profile = s.profile := rfl
@[simp] theorem State.setEngine_tables : (s.setEngine v).tables = s.tables := rfl
@[simp] theorem State.setEngine_squelch : (s.setEngine v).squelch = s.squelch := rfl
@[simp] theorem State.setEngine_requests : (s.setEngine v).requests = s.requests := rfl
@[simp] theorem State.setEngine_transmit : (s.setEngine v).transmit = s.transmit := rfl
@[simp] theorem State.setEngine_pointer : (s.setEngine v).pointer = s.pointer := rfl
@[simp] theorem State.setEngine_events : (s.setEngine v).events = s.events := rfl
@[simp] theorem State.setEngine_counters : (s.setEngine v).counters = s.counters := rfl
@[simp] theorem State.setEngine_alertN : (s.setEngine v).alertN = s.alertN := rfl
@[simp] theorem State.setEngine_pending : (s.setEngine v).pending = s.pending := rfl
end

section
variable (v : Identity)
@[simp] theorem State.setIdentity_resetN : (s.setIdentity v).resetN = s.resetN := rfl
@[simp] theorem State.setIdentity_losPin : (s.setIdentity v).losPin = s.losPin := rfl
@[simp] theorem State.setIdentity_frameCount : (s.setIdentity v).frameCount = s.frameCount := rfl
@[simp] theorem State.setIdentity_instant : (s.setIdentity v).instant = s.instant := rfl
@[simp] theorem State.setIdentity_receiver : (s.setIdentity v).receiver = s.receiver := rfl
@[simp] theorem State.setIdentity_buffer : (s.setIdentity v).buffer = s.buffer := rfl
@[simp] theorem State.setIdentity_holder : (s.setIdentity v).holder = s.holder := rfl
@[simp] theorem State.setIdentity_sentParity : (s.setIdentity v).sentParity = s.sentParity := rfl
@[simp] theorem State.setIdentity_sent : (s.setIdentity v).sent = s.sent := rfl
@[simp] theorem State.setIdentity_monitor : (s.setIdentity v).monitor = s.monitor := rfl
@[simp] theorem State.setIdentity_condition : (s.setIdentity v).condition = s.condition := rfl
@[simp] theorem State.setIdentity_park : (s.setIdentity v).park = s.park := rfl
@[simp] theorem State.setIdentity_signalling : (s.setIdentity v).signalling = s.signalling := rfl
@[simp] theorem State.setIdentity_resolver : (s.setIdentity v).resolver = s.resolver := rfl
@[simp] theorem State.setIdentity_engine : (s.setIdentity v).engine = s.engine := rfl
@[simp] theorem State.setIdentity_identity : (s.setIdentity v).identity = v := rfl
@[simp] theorem State.setIdentity_ringMap : (s.setIdentity v).ringMap = s.ringMap := rfl
@[simp] theorem State.setIdentity_profile : (s.setIdentity v).profile = s.profile := rfl
@[simp] theorem State.setIdentity_tables : (s.setIdentity v).tables = s.tables := rfl
@[simp] theorem State.setIdentity_squelch : (s.setIdentity v).squelch = s.squelch := rfl
@[simp] theorem State.setIdentity_requests : (s.setIdentity v).requests = s.requests := rfl
@[simp] theorem State.setIdentity_transmit : (s.setIdentity v).transmit = s.transmit := rfl
@[simp] theorem State.setIdentity_pointer : (s.setIdentity v).pointer = s.pointer := rfl
@[simp] theorem State.setIdentity_events : (s.setIdentity v).events = s.events := rfl
@[simp] theorem State.setIdentity_counters : (s.setIdentity v).counters = s.counters := rfl
@[simp] theorem State.setIdentity_alertN : (s.setIdentity v).alertN = s.alertN := rfl
@[simp] theorem State.setIdentity_pending : (s.setIdentity v).pending = s.pending := rfl
end

section
variable (v : RingMap)
@[simp] theorem State.setRingMap_resetN : (s.setRingMap v).resetN = s.resetN := rfl
@[simp] theorem State.setRingMap_losPin : (s.setRingMap v).losPin = s.losPin := rfl
@[simp] theorem State.setRingMap_frameCount : (s.setRingMap v).frameCount = s.frameCount := rfl
@[simp] theorem State.setRingMap_instant : (s.setRingMap v).instant = s.instant := rfl
@[simp] theorem State.setRingMap_receiver : (s.setRingMap v).receiver = s.receiver := rfl
@[simp] theorem State.setRingMap_buffer : (s.setRingMap v).buffer = s.buffer := rfl
@[simp] theorem State.setRingMap_holder : (s.setRingMap v).holder = s.holder := rfl
@[simp] theorem State.setRingMap_sentParity : (s.setRingMap v).sentParity = s.sentParity := rfl
@[simp] theorem State.setRingMap_sent : (s.setRingMap v).sent = s.sent := rfl
@[simp] theorem State.setRingMap_monitor : (s.setRingMap v).monitor = s.monitor := rfl
@[simp] theorem State.setRingMap_condition : (s.setRingMap v).condition = s.condition := rfl
@[simp] theorem State.setRingMap_park : (s.setRingMap v).park = s.park := rfl
@[simp] theorem State.setRingMap_signalling : (s.setRingMap v).signalling = s.signalling := rfl
@[simp] theorem State.setRingMap_resolver : (s.setRingMap v).resolver = s.resolver := rfl
@[simp] theorem State.setRingMap_engine : (s.setRingMap v).engine = s.engine := rfl
@[simp] theorem State.setRingMap_identity : (s.setRingMap v).identity = s.identity := rfl
@[simp] theorem State.setRingMap_ringMap : (s.setRingMap v).ringMap = v := rfl
@[simp] theorem State.setRingMap_profile : (s.setRingMap v).profile = s.profile := rfl
@[simp] theorem State.setRingMap_tables : (s.setRingMap v).tables = s.tables := rfl
@[simp] theorem State.setRingMap_squelch : (s.setRingMap v).squelch = s.squelch := rfl
@[simp] theorem State.setRingMap_requests : (s.setRingMap v).requests = s.requests := rfl
@[simp] theorem State.setRingMap_transmit : (s.setRingMap v).transmit = s.transmit := rfl
@[simp] theorem State.setRingMap_pointer : (s.setRingMap v).pointer = s.pointer := rfl
@[simp] theorem State.setRingMap_events : (s.setRingMap v).events = s.events := rfl
@[simp] theorem State.setRingMap_counters : (s.setRingMap v).counters = s.counters := rfl
@[simp] theorem State.setRingMap_alertN : (s.setRingMap v).alertN = s.alertN := rfl
@[simp] theorem State.setRingMap_pending : (s.setRingMap v).pending = s.pending := rfl
end

section
variable (v : Profile)
@[simp] theorem State.setProfile_resetN : (s.setProfile v).resetN = s.resetN := rfl
@[simp] theorem State.setProfile_losPin : (s.setProfile v).losPin = s.losPin := rfl
@[simp] theorem State.setProfile_frameCount : (s.setProfile v).frameCount = s.frameCount := rfl
@[simp] theorem State.setProfile_instant : (s.setProfile v).instant = s.instant := rfl
@[simp] theorem State.setProfile_receiver : (s.setProfile v).receiver = s.receiver := rfl
@[simp] theorem State.setProfile_buffer : (s.setProfile v).buffer = s.buffer := rfl
@[simp] theorem State.setProfile_holder : (s.setProfile v).holder = s.holder := rfl
@[simp] theorem State.setProfile_sentParity : (s.setProfile v).sentParity = s.sentParity := rfl
@[simp] theorem State.setProfile_sent : (s.setProfile v).sent = s.sent := rfl
@[simp] theorem State.setProfile_monitor : (s.setProfile v).monitor = s.monitor := rfl
@[simp] theorem State.setProfile_condition : (s.setProfile v).condition = s.condition := rfl
@[simp] theorem State.setProfile_park : (s.setProfile v).park = s.park := rfl
@[simp] theorem State.setProfile_signalling : (s.setProfile v).signalling = s.signalling := rfl
@[simp] theorem State.setProfile_resolver : (s.setProfile v).resolver = s.resolver := rfl
@[simp] theorem State.setProfile_engine : (s.setProfile v).engine = s.engine := rfl
@[simp] theorem State.setProfile_identity : (s.setProfile v).identity = s.identity := rfl
@[simp] theorem State.setProfile_ringMap : (s.setProfile v).ringMap = s.ringMap := rfl
@[simp] theorem State.setProfile_profile : (s.setProfile v).profile = v := rfl
@[simp] theorem State.setProfile_tables : (s.setProfile v).tables = s.tables := rfl
@[simp] theorem State.setProfile_squelch : (s.setProfile v).squelch = s.squelch := rfl
@[simp] theorem State.setProfile_requests : (s.setProfile v).requests = s.requests := rfl
@[simp] theorem State.setProfile_transmit : (s.setProfile v).transmit = s.transmit := rfl
@[simp] theorem State.setProfile_pointer : (s.setProfile v).pointer = s.pointer := rfl
@[simp] theorem State.setProfile_events : (s.setProfile v).events = s.events := rfl
@[simp] theorem State.setProfile_counters : (s.setProfile v).counters = s.counters := rfl
@[simp] theorem State.setProfile_alertN : (s.setProfile v).alertN = s.alertN := rfl
@[simp] theorem State.setProfile_pending : (s.setProfile v).pending = s.pending := rfl
end

section
variable (v : Tables)
@[simp] theorem State.setTables_resetN : (s.setTables v).resetN = s.resetN := rfl
@[simp] theorem State.setTables_losPin : (s.setTables v).losPin = s.losPin := rfl
@[simp] theorem State.setTables_frameCount : (s.setTables v).frameCount = s.frameCount := rfl
@[simp] theorem State.setTables_instant : (s.setTables v).instant = s.instant := rfl
@[simp] theorem State.setTables_receiver : (s.setTables v).receiver = s.receiver := rfl
@[simp] theorem State.setTables_buffer : (s.setTables v).buffer = s.buffer := rfl
@[simp] theorem State.setTables_holder : (s.setTables v).holder = s.holder := rfl
@[simp] theorem State.setTables_sentParity : (s.setTables v).sentParity = s.sentParity := rfl
@[simp] theorem State.setTables_sent : (s.setTables v).sent = s.sent := rfl
@[simp] theorem State.setTables_monitor : (s.setTables v).monitor = s.monitor := rfl
@[simp] theorem State.setTables_condition : (s.setTables v).condition = s.condition := rfl
@[simp] theorem State.setTables_park : (s.setTables v).park = s.park := rfl
@[simp] theorem State.setTables_signalling : (s.setTables v).signalling = s.signalling := rfl
@[simp] theorem State.setTables_resolver : (s.setTables v).resolver = s.resolver := rfl
@[simp] theorem State.setTables_engine : (s.setTables v).engine = s.engine := rfl
@[simp] theorem State.setTables_identity : (s.setTables v).identity = s.identity := rfl
@[simp] theorem State.setTables_ringMap : (s.setTables v).ringMap = s.ringMap := rfl
@[simp] theorem State.setTables_profile : (s.setTables v).profile = s.profile := rfl
@[simp] theorem State.setTables_tables : (s.setTables v).tables = v := rfl
@[simp] theorem State.setTables_squelch : (s.setTables v).squelch = s.squelch := rfl
@[simp] theorem State.setTables_requests : (s.setTables v).requests = s.requests := rfl
@[simp] theorem State.setTables_transmit : (s.setTables v).transmit = s.transmit := rfl
@[simp] theorem State.setTables_pointer : (s.setTables v).pointer = s.pointer := rfl
@[simp] theorem State.setTables_events : (s.setTables v).events = s.events := rfl
@[simp] theorem State.setTables_counters : (s.setTables v).counters = s.counters := rfl
@[simp] theorem State.setTables_alertN : (s.setTables v).alertN = s.alertN := rfl
@[simp] theorem State.setTables_pending : (s.setTables v).pending = s.pending := rfl
end

section
variable (v : Squelch)
@[simp] theorem State.setSquelch_resetN : (s.setSquelch v).resetN = s.resetN := rfl
@[simp] theorem State.setSquelch_losPin : (s.setSquelch v).losPin = s.losPin := rfl
@[simp] theorem State.setSquelch_frameCount : (s.setSquelch v).frameCount = s.frameCount := rfl
@[simp] theorem State.setSquelch_instant : (s.setSquelch v).instant = s.instant := rfl
@[simp] theorem State.setSquelch_receiver : (s.setSquelch v).receiver = s.receiver := rfl
@[simp] theorem State.setSquelch_buffer : (s.setSquelch v).buffer = s.buffer := rfl
@[simp] theorem State.setSquelch_holder : (s.setSquelch v).holder = s.holder := rfl
@[simp] theorem State.setSquelch_sentParity : (s.setSquelch v).sentParity = s.sentParity := rfl
@[simp] theorem State.setSquelch_sent : (s.setSquelch v).sent = s.sent := rfl
@[simp] theorem State.setSquelch_monitor : (s.setSquelch v).monitor = s.monitor := rfl
@[simp] theorem State.setSquelch_condition : (s.setSquelch v).condition = s.condition := rfl
@[simp] theorem State.setSquelch_park : (s.setSquelch v).park = s.park := rfl
@[simp] theorem State.setSquelch_signalling : (s.setSquelch v).signalling = s.signalling := rfl
@[simp] theorem State.setSquelch_resolver : (s.setSquelch v).resolver = s.resolver := rfl
@[simp] theorem State.setSquelch_engine : (s.setSquelch v).engine = s.engine := rfl
@[simp] theorem State.setSquelch_identity : (s.setSquelch v).identity = s.identity := rfl
@[simp] theorem State.setSquelch_ringMap : (s.setSquelch v).ringMap = s.ringMap := rfl
@[simp] theorem State.setSquelch_profile : (s.setSquelch v).profile = s.profile := rfl
@[simp] theorem State.setSquelch_tables : (s.setSquelch v).tables = s.tables := rfl
@[simp] theorem State.setSquelch_squelch : (s.setSquelch v).squelch = v := rfl
@[simp] theorem State.setSquelch_requests : (s.setSquelch v).requests = s.requests := rfl
@[simp] theorem State.setSquelch_transmit : (s.setSquelch v).transmit = s.transmit := rfl
@[simp] theorem State.setSquelch_pointer : (s.setSquelch v).pointer = s.pointer := rfl
@[simp] theorem State.setSquelch_events : (s.setSquelch v).events = s.events := rfl
@[simp] theorem State.setSquelch_counters : (s.setSquelch v).counters = s.counters := rfl
@[simp] theorem State.setSquelch_alertN : (s.setSquelch v).alertN = s.alertN := rfl
@[simp] theorem State.setSquelch_pending : (s.setSquelch v).pending = s.pending := rfl
end

section
variable (v : Ports (List Cell))
@[simp] theorem State.setRequests_resetN : (s.setRequests v).resetN = s.resetN := rfl
@[simp] theorem State.setRequests_losPin : (s.setRequests v).losPin = s.losPin := rfl
@[simp] theorem State.setRequests_frameCount : (s.setRequests v).frameCount = s.frameCount := rfl
@[simp] theorem State.setRequests_instant : (s.setRequests v).instant = s.instant := rfl
@[simp] theorem State.setRequests_receiver : (s.setRequests v).receiver = s.receiver := rfl
@[simp] theorem State.setRequests_buffer : (s.setRequests v).buffer = s.buffer := rfl
@[simp] theorem State.setRequests_holder : (s.setRequests v).holder = s.holder := rfl
@[simp] theorem State.setRequests_sentParity : (s.setRequests v).sentParity = s.sentParity := rfl
@[simp] theorem State.setRequests_sent : (s.setRequests v).sent = s.sent := rfl
@[simp] theorem State.setRequests_monitor : (s.setRequests v).monitor = s.monitor := rfl
@[simp] theorem State.setRequests_condition : (s.setRequests v).condition = s.condition := rfl
@[simp] theorem State.setRequests_park : (s.setRequests v).park = s.park := rfl
@[simp] theorem State.setRequests_signalling : (s.setRequests v).signalling = s.signalling := rfl
@[simp] theorem State.setRequests_resolver : (s.setRequests v).resolver = s.resolver := rfl
@[simp] theorem State.setRequests_engine : (s.setRequests v).engine = s.engine := rfl
@[simp] theorem State.setRequests_identity : (s.setRequests v).identity = s.identity := rfl
@[simp] theorem State.setRequests_ringMap : (s.setRequests v).ringMap = s.ringMap := rfl
@[simp] theorem State.setRequests_profile : (s.setRequests v).profile = s.profile := rfl
@[simp] theorem State.setRequests_tables : (s.setRequests v).tables = s.tables := rfl
@[simp] theorem State.setRequests_squelch : (s.setRequests v).squelch = s.squelch := rfl
@[simp] theorem State.setRequests_requests : (s.setRequests v).requests = v := rfl
@[simp] theorem State.setRequests_transmit : (s.setRequests v).transmit = s.transmit := rfl
@[simp] theorem State.setRequests_pointer : (s.setRequests v).pointer = s.pointer := rfl
@[simp] theorem State.setRequests_events : (s.setRequests v).events = s.events := rfl
@[simp] theorem State.setRequests_counters : (s.setRequests v).counters = s.counters := rfl
@[simp] theorem State.setRequests_alertN : (s.setRequests v).alertN = s.alertN := rfl
@[simp] theorem State.setRequests_pending : (s.setRequests v).pending = s.pending := rfl
end

section
variable (v : Ports TransmitQueue)
@[simp] theorem State.setTransmit_resetN : (s.setTransmit v).resetN = s.resetN := rfl
@[simp] theorem State.setTransmit_losPin : (s.setTransmit v).losPin = s.losPin := rfl
@[simp] theorem State.setTransmit_frameCount : (s.setTransmit v).frameCount = s.frameCount := rfl
@[simp] theorem State.setTransmit_instant : (s.setTransmit v).instant = s.instant := rfl
@[simp] theorem State.setTransmit_receiver : (s.setTransmit v).receiver = s.receiver := rfl
@[simp] theorem State.setTransmit_buffer : (s.setTransmit v).buffer = s.buffer := rfl
@[simp] theorem State.setTransmit_holder : (s.setTransmit v).holder = s.holder := rfl
@[simp] theorem State.setTransmit_sentParity : (s.setTransmit v).sentParity = s.sentParity := rfl
@[simp] theorem State.setTransmit_sent : (s.setTransmit v).sent = s.sent := rfl
@[simp] theorem State.setTransmit_monitor : (s.setTransmit v).monitor = s.monitor := rfl
@[simp] theorem State.setTransmit_condition : (s.setTransmit v).condition = s.condition := rfl
@[simp] theorem State.setTransmit_park : (s.setTransmit v).park = s.park := rfl
@[simp] theorem State.setTransmit_signalling : (s.setTransmit v).signalling = s.signalling := rfl
@[simp] theorem State.setTransmit_resolver : (s.setTransmit v).resolver = s.resolver := rfl
@[simp] theorem State.setTransmit_engine : (s.setTransmit v).engine = s.engine := rfl
@[simp] theorem State.setTransmit_identity : (s.setTransmit v).identity = s.identity := rfl
@[simp] theorem State.setTransmit_ringMap : (s.setTransmit v).ringMap = s.ringMap := rfl
@[simp] theorem State.setTransmit_profile : (s.setTransmit v).profile = s.profile := rfl
@[simp] theorem State.setTransmit_tables : (s.setTransmit v).tables = s.tables := rfl
@[simp] theorem State.setTransmit_squelch : (s.setTransmit v).squelch = s.squelch := rfl
@[simp] theorem State.setTransmit_requests : (s.setTransmit v).requests = s.requests := rfl
@[simp] theorem State.setTransmit_transmit : (s.setTransmit v).transmit = v := rfl
@[simp] theorem State.setTransmit_pointer : (s.setTransmit v).pointer = s.pointer := rfl
@[simp] theorem State.setTransmit_events : (s.setTransmit v).events = s.events := rfl
@[simp] theorem State.setTransmit_counters : (s.setTransmit v).counters = s.counters := rfl
@[simp] theorem State.setTransmit_alertN : (s.setTransmit v).alertN = s.alertN := rfl
@[simp] theorem State.setTransmit_pending : (s.setTransmit v).pending = s.pending := rfl
end

section
variable (v : Port)
@[simp] theorem State.setPointer_resetN : (s.setPointer v).resetN = s.resetN := rfl
@[simp] theorem State.setPointer_losPin : (s.setPointer v).losPin = s.losPin := rfl
@[simp] theorem State.setPointer_frameCount : (s.setPointer v).frameCount = s.frameCount := rfl
@[simp] theorem State.setPointer_instant : (s.setPointer v).instant = s.instant := rfl
@[simp] theorem State.setPointer_receiver : (s.setPointer v).receiver = s.receiver := rfl
@[simp] theorem State.setPointer_buffer : (s.setPointer v).buffer = s.buffer := rfl
@[simp] theorem State.setPointer_holder : (s.setPointer v).holder = s.holder := rfl
@[simp] theorem State.setPointer_sentParity : (s.setPointer v).sentParity = s.sentParity := rfl
@[simp] theorem State.setPointer_sent : (s.setPointer v).sent = s.sent := rfl
@[simp] theorem State.setPointer_monitor : (s.setPointer v).monitor = s.monitor := rfl
@[simp] theorem State.setPointer_condition : (s.setPointer v).condition = s.condition := rfl
@[simp] theorem State.setPointer_park : (s.setPointer v).park = s.park := rfl
@[simp] theorem State.setPointer_signalling : (s.setPointer v).signalling = s.signalling := rfl
@[simp] theorem State.setPointer_resolver : (s.setPointer v).resolver = s.resolver := rfl
@[simp] theorem State.setPointer_engine : (s.setPointer v).engine = s.engine := rfl
@[simp] theorem State.setPointer_identity : (s.setPointer v).identity = s.identity := rfl
@[simp] theorem State.setPointer_ringMap : (s.setPointer v).ringMap = s.ringMap := rfl
@[simp] theorem State.setPointer_profile : (s.setPointer v).profile = s.profile := rfl
@[simp] theorem State.setPointer_tables : (s.setPointer v).tables = s.tables := rfl
@[simp] theorem State.setPointer_squelch : (s.setPointer v).squelch = s.squelch := rfl
@[simp] theorem State.setPointer_requests : (s.setPointer v).requests = s.requests := rfl
@[simp] theorem State.setPointer_transmit : (s.setPointer v).transmit = s.transmit := rfl
@[simp] theorem State.setPointer_pointer : (s.setPointer v).pointer = v := rfl
@[simp] theorem State.setPointer_events : (s.setPointer v).events = s.events := rfl
@[simp] theorem State.setPointer_counters : (s.setPointer v).counters = s.counters := rfl
@[simp] theorem State.setPointer_alertN : (s.setPointer v).alertN = s.alertN := rfl
@[simp] theorem State.setPointer_pending : (s.setPointer v).pending = s.pending := rfl
end

section
variable (v : EventUnit)
@[simp] theorem State.setEvents_resetN : (s.setEvents v).resetN = s.resetN := rfl
@[simp] theorem State.setEvents_losPin : (s.setEvents v).losPin = s.losPin := rfl
@[simp] theorem State.setEvents_frameCount : (s.setEvents v).frameCount = s.frameCount := rfl
@[simp] theorem State.setEvents_instant : (s.setEvents v).instant = s.instant := rfl
@[simp] theorem State.setEvents_receiver : (s.setEvents v).receiver = s.receiver := rfl
@[simp] theorem State.setEvents_buffer : (s.setEvents v).buffer = s.buffer := rfl
@[simp] theorem State.setEvents_holder : (s.setEvents v).holder = s.holder := rfl
@[simp] theorem State.setEvents_sentParity : (s.setEvents v).sentParity = s.sentParity := rfl
@[simp] theorem State.setEvents_sent : (s.setEvents v).sent = s.sent := rfl
@[simp] theorem State.setEvents_monitor : (s.setEvents v).monitor = s.monitor := rfl
@[simp] theorem State.setEvents_condition : (s.setEvents v).condition = s.condition := rfl
@[simp] theorem State.setEvents_park : (s.setEvents v).park = s.park := rfl
@[simp] theorem State.setEvents_signalling : (s.setEvents v).signalling = s.signalling := rfl
@[simp] theorem State.setEvents_resolver : (s.setEvents v).resolver = s.resolver := rfl
@[simp] theorem State.setEvents_engine : (s.setEvents v).engine = s.engine := rfl
@[simp] theorem State.setEvents_identity : (s.setEvents v).identity = s.identity := rfl
@[simp] theorem State.setEvents_ringMap : (s.setEvents v).ringMap = s.ringMap := rfl
@[simp] theorem State.setEvents_profile : (s.setEvents v).profile = s.profile := rfl
@[simp] theorem State.setEvents_tables : (s.setEvents v).tables = s.tables := rfl
@[simp] theorem State.setEvents_squelch : (s.setEvents v).squelch = s.squelch := rfl
@[simp] theorem State.setEvents_requests : (s.setEvents v).requests = s.requests := rfl
@[simp] theorem State.setEvents_transmit : (s.setEvents v).transmit = s.transmit := rfl
@[simp] theorem State.setEvents_pointer : (s.setEvents v).pointer = s.pointer := rfl
@[simp] theorem State.setEvents_events : (s.setEvents v).events = v := rfl
@[simp] theorem State.setEvents_counters : (s.setEvents v).counters = s.counters := rfl
@[simp] theorem State.setEvents_alertN : (s.setEvents v).alertN = s.alertN := rfl
@[simp] theorem State.setEvents_pending : (s.setEvents v).pending = s.pending := rfl
end

section
variable (v : Vector Word 18)
@[simp] theorem State.setCounters_resetN : (s.setCounters v).resetN = s.resetN := rfl
@[simp] theorem State.setCounters_losPin : (s.setCounters v).losPin = s.losPin := rfl
@[simp] theorem State.setCounters_frameCount : (s.setCounters v).frameCount = s.frameCount := rfl
@[simp] theorem State.setCounters_instant : (s.setCounters v).instant = s.instant := rfl
@[simp] theorem State.setCounters_receiver : (s.setCounters v).receiver = s.receiver := rfl
@[simp] theorem State.setCounters_buffer : (s.setCounters v).buffer = s.buffer := rfl
@[simp] theorem State.setCounters_holder : (s.setCounters v).holder = s.holder := rfl
@[simp] theorem State.setCounters_sentParity : (s.setCounters v).sentParity = s.sentParity := rfl
@[simp] theorem State.setCounters_sent : (s.setCounters v).sent = s.sent := rfl
@[simp] theorem State.setCounters_monitor : (s.setCounters v).monitor = s.monitor := rfl
@[simp] theorem State.setCounters_condition : (s.setCounters v).condition = s.condition := rfl
@[simp] theorem State.setCounters_park : (s.setCounters v).park = s.park := rfl
@[simp] theorem State.setCounters_signalling : (s.setCounters v).signalling = s.signalling := rfl
@[simp] theorem State.setCounters_resolver : (s.setCounters v).resolver = s.resolver := rfl
@[simp] theorem State.setCounters_engine : (s.setCounters v).engine = s.engine := rfl
@[simp] theorem State.setCounters_identity : (s.setCounters v).identity = s.identity := rfl
@[simp] theorem State.setCounters_ringMap : (s.setCounters v).ringMap = s.ringMap := rfl
@[simp] theorem State.setCounters_profile : (s.setCounters v).profile = s.profile := rfl
@[simp] theorem State.setCounters_tables : (s.setCounters v).tables = s.tables := rfl
@[simp] theorem State.setCounters_squelch : (s.setCounters v).squelch = s.squelch := rfl
@[simp] theorem State.setCounters_requests : (s.setCounters v).requests = s.requests := rfl
@[simp] theorem State.setCounters_transmit : (s.setCounters v).transmit = s.transmit := rfl
@[simp] theorem State.setCounters_pointer : (s.setCounters v).pointer = s.pointer := rfl
@[simp] theorem State.setCounters_events : (s.setCounters v).events = s.events := rfl
@[simp] theorem State.setCounters_counters : (s.setCounters v).counters = v := rfl
@[simp] theorem State.setCounters_alertN : (s.setCounters v).alertN = s.alertN := rfl
@[simp] theorem State.setCounters_pending : (s.setCounters v).pending = s.pending := rfl
end

section
variable (v : Bool)
@[simp] theorem State.setAlertN_resetN : (s.setAlertN v).resetN = s.resetN := rfl
@[simp] theorem State.setAlertN_losPin : (s.setAlertN v).losPin = s.losPin := rfl
@[simp] theorem State.setAlertN_frameCount : (s.setAlertN v).frameCount = s.frameCount := rfl
@[simp] theorem State.setAlertN_instant : (s.setAlertN v).instant = s.instant := rfl
@[simp] theorem State.setAlertN_receiver : (s.setAlertN v).receiver = s.receiver := rfl
@[simp] theorem State.setAlertN_buffer : (s.setAlertN v).buffer = s.buffer := rfl
@[simp] theorem State.setAlertN_holder : (s.setAlertN v).holder = s.holder := rfl
@[simp] theorem State.setAlertN_sentParity : (s.setAlertN v).sentParity = s.sentParity := rfl
@[simp] theorem State.setAlertN_sent : (s.setAlertN v).sent = s.sent := rfl
@[simp] theorem State.setAlertN_monitor : (s.setAlertN v).monitor = s.monitor := rfl
@[simp] theorem State.setAlertN_condition : (s.setAlertN v).condition = s.condition := rfl
@[simp] theorem State.setAlertN_park : (s.setAlertN v).park = s.park := rfl
@[simp] theorem State.setAlertN_signalling : (s.setAlertN v).signalling = s.signalling := rfl
@[simp] theorem State.setAlertN_resolver : (s.setAlertN v).resolver = s.resolver := rfl
@[simp] theorem State.setAlertN_engine : (s.setAlertN v).engine = s.engine := rfl
@[simp] theorem State.setAlertN_identity : (s.setAlertN v).identity = s.identity := rfl
@[simp] theorem State.setAlertN_ringMap : (s.setAlertN v).ringMap = s.ringMap := rfl
@[simp] theorem State.setAlertN_profile : (s.setAlertN v).profile = s.profile := rfl
@[simp] theorem State.setAlertN_tables : (s.setAlertN v).tables = s.tables := rfl
@[simp] theorem State.setAlertN_squelch : (s.setAlertN v).squelch = s.squelch := rfl
@[simp] theorem State.setAlertN_requests : (s.setAlertN v).requests = s.requests := rfl
@[simp] theorem State.setAlertN_transmit : (s.setAlertN v).transmit = s.transmit := rfl
@[simp] theorem State.setAlertN_pointer : (s.setAlertN v).pointer = s.pointer := rfl
@[simp] theorem State.setAlertN_events : (s.setAlertN v).events = s.events := rfl
@[simp] theorem State.setAlertN_counters : (s.setAlertN v).counters = s.counters := rfl
@[simp] theorem State.setAlertN_alertN : (s.setAlertN v).alertN = v := rfl
@[simp] theorem State.setAlertN_pending : (s.setAlertN v).pending = s.pending := rfl
end

section
variable (v : List Instr)
@[simp] theorem State.setPending_resetN : (s.setPending v).resetN = s.resetN := rfl
@[simp] theorem State.setPending_losPin : (s.setPending v).losPin = s.losPin := rfl
@[simp] theorem State.setPending_frameCount : (s.setPending v).frameCount = s.frameCount := rfl
@[simp] theorem State.setPending_instant : (s.setPending v).instant = s.instant := rfl
@[simp] theorem State.setPending_receiver : (s.setPending v).receiver = s.receiver := rfl
@[simp] theorem State.setPending_buffer : (s.setPending v).buffer = s.buffer := rfl
@[simp] theorem State.setPending_holder : (s.setPending v).holder = s.holder := rfl
@[simp] theorem State.setPending_sentParity : (s.setPending v).sentParity = s.sentParity := rfl
@[simp] theorem State.setPending_sent : (s.setPending v).sent = s.sent := rfl
@[simp] theorem State.setPending_monitor : (s.setPending v).monitor = s.monitor := rfl
@[simp] theorem State.setPending_condition : (s.setPending v).condition = s.condition := rfl
@[simp] theorem State.setPending_park : (s.setPending v).park = s.park := rfl
@[simp] theorem State.setPending_signalling : (s.setPending v).signalling = s.signalling := rfl
@[simp] theorem State.setPending_resolver : (s.setPending v).resolver = s.resolver := rfl
@[simp] theorem State.setPending_engine : (s.setPending v).engine = s.engine := rfl
@[simp] theorem State.setPending_identity : (s.setPending v).identity = s.identity := rfl
@[simp] theorem State.setPending_ringMap : (s.setPending v).ringMap = s.ringMap := rfl
@[simp] theorem State.setPending_profile : (s.setPending v).profile = s.profile := rfl
@[simp] theorem State.setPending_tables : (s.setPending v).tables = s.tables := rfl
@[simp] theorem State.setPending_squelch : (s.setPending v).squelch = s.squelch := rfl
@[simp] theorem State.setPending_requests : (s.setPending v).requests = s.requests := rfl
@[simp] theorem State.setPending_transmit : (s.setPending v).transmit = s.transmit := rfl
@[simp] theorem State.setPending_pointer : (s.setPending v).pointer = s.pointer := rfl
@[simp] theorem State.setPending_events : (s.setPending v).events = s.events := rfl
@[simp] theorem State.setPending_counters : (s.setPending v).counters = s.counters := rfl
@[simp] theorem State.setPending_alertN : (s.setPending v).alertN = s.alertN := rfl
@[simp] theorem State.setPending_pending : (s.setPending v).pending = v := rfl
end

end Sys2Proof.Machine
end

