-- ==== Sys2Proof/Laws/Ops.lean ====
section
/-! SUPPORT. What the shared operations over sides, ports, counters, timers and queues do, each said once. -/

namespace Sys2Proof

/-! ### One value for each side, one for each port -/

@[simp] theorem Side.other_other (x : Side) : x.other.other = x := by cases x <;> rfl

theorem Side.other_ne (x : Side) : x.other ≠ x := by cases x <;> decide

@[simp] theorem Sides.get_east {α : Type} (a b : α) : (Sides.mk a b).get .east = a := rfl
@[simp] theorem Sides.get_west {α : Type} (a b : α) : (Sides.mk a b).get .west = b := rfl

theorem Sides.get_set {α : Type} (v : Sides α) (x y : Side) (a : α) : (v.set x a).get y = if y = x then a else v.get y := by
  cases x <;> cases y <;> rfl

@[simp] theorem Sides.get_set_self {α : Type} (v : Sides α) (x : Side) (a : α) : (v.set x a).get x = a := by cases x <;> rfl

@[simp] theorem Sides.get_set_other {α : Type} (v : Sides α) (x : Side) (a : α) : (v.set x a).get x.other = v.get x.other := by
  cases x <;> rfl

@[simp] theorem Sides.set_get {α : Type} (v : Sides α) (x : Side) : v.set x (v.get x) = v := by cases x <;> rfl

@[simp] theorem Sides.set_set {α : Type} (v : Sides α) (x : Side) (a b : α) : (v.set x a).set x b = v.set x b := by
  cases x <;> rfl

theorem Sides.ext_get {α : Type} {v w : Sides α} (h : ∀ x, v.get x = w.get x) : v = w := by
  cases v
  cases w
  congr 1
  · exact h .east
  · exact h .west

@[simp] theorem Sides.get_update_self {α : Type} (v : Sides α) (x : Side) (f : α → α) : (v.update x f).get x = f (v.get x) := by
  cases x <;> rfl

@[simp] theorem Sides.get_update_other {α : Type} (v : Sides α) (x : Side) (f : α → α) :
    (v.update x f).get x.other = v.get x.other := by
  cases x <;> rfl

theorem Ports.get_set {α : Type} (v : Ports α) (q r : Port) (a : α) : (v.set q a).get r = if r = q then a else v.get r := by
  cases q <;> cases r <;> rfl

@[simp] theorem Ports.get_set_self {α : Type} (v : Ports α) (q : Port) (a : α) : (v.set q a).get q = a := by cases q <;> rfl

@[simp] theorem Ports.set_get {α : Type} (v : Ports α) (q : Port) : v.set q (v.get q) = v := by cases q <;> rfl

@[simp] theorem Ports.set_set {α : Type} (v : Ports α) (q : Port) (a b : α) : (v.set q a).set q b = v.set q b := by
  cases q <;> rfl

@[simp] theorem Ports.get_update_self {α : Type} (v : Ports α) (q : Port) (f : α → α) : (v.update q f).get q = f (v.get q) := by
  cases q <;> rfl

theorem Ports.ext_get {α : Type} {v w : Ports α} (h : ∀ q, v.get q = w.get q) : v = w := by
  cases v
  cases w
  congr 1
  · exact h .east
  · exact h .west
  · exact h .tributary

namespace Machine

/-! ### Updates of one side, in one form -/

theorem State.updateReceiver_eq (s : State) (x : Side) (f : Receiver → Receiver) :
    s.updateReceiver x f = { s with receiver := s.receiver.update x f } := rfl
theorem State.updateBuffer_eq (s : State) (x : Side) (f : Buffer → Buffer) :
    s.updateBuffer x f = { s with buffer := s.buffer.update x f } := rfl
theorem State.updateMonitor_eq (s : State) (x : Side) (f : Monitor → Monitor) :
    s.updateMonitor x f = { s with monitor := s.monitor.update x f } := rfl
theorem State.updateCondition_eq (s : State) (x : Side) (f : ConditionSide → ConditionSide) :
    s.updateCondition x f = { s with condition := s.condition.update x f } := rfl
theorem State.updateEngine_eq (s : State) (x : Side) (f : Engine → Engine) :
    s.updateEngine x f = { s with engine := s.engine.update x f } := rfl
theorem State.updateOwn_eq (s : State) (x : Side) (f : OwnEntry → OwnEntry) :
    s.updateOwn x f = { s with signalling := { s.signalling with own := s.signalling.own.update x f } } := rfl
theorem State.updateTransmit_eq (s : State) (q : Port) (f : TransmitQueue → TransmitQueue) :
    s.updateTransmit q f = { s with transmit := s.transmit.update q f } := rfl
theorem State.raise_eq (s : State) (p : Pulse) :
    s.raise p = { s with events := { s.events with pulses := s.events.pulses ||| (1#32 <<< p.bit) } } := rfl
theorem State.bump_eq (s : State) (c : Counter) (n : Nat) :
    s.bump c n = { s with counters := s.counters.set c.index (advanced s.counters[c.index] n) } := rfl

/-! ### Counters (R173) -/

theorem Counter.index_injective {c d : Counter} (h : c.index = d.index) : c = d := by
  cases c <;> cases d <;> first
    | rfl
    | (rename_i x y; cases x <;> cases y <;> first | rfl | exact absurd h (by decide))
    | (rename_i x; cases x <;> exact absurd h (by decide))
    | exact absurd h (by decide)

/-- A counter's advance reaches that counter and no other. -/
theorem State.count_bump (s : State) (c d : Counter) (n : Nat) :
    (s.bump c n).count d = if d = c then advanced (s.count c) n else s.count d := by
  unfold State.count State.bump
  by_cases h : d = c
  · subst h
    simp
  · have hi : c.index.val ≠ d.index.val := fun e => h (Counter.index_injective (Fin.ext e.symm))
    simp [h, hi]

@[simp] theorem State.count_raise (s : State) (p : Pulse) (c : Counter) : (s.raise p).count c = s.count c := rfl

@[simp] theorem advanced_zero (c : Word) : advanced c 0 = c := by
  have := c.isLt
  unfold advanced counterTop
  apply BitVec.eq_of_toNat_eq
  simp
  omega

/-- An advance never lowers a counter, and stops at the top. -/
theorem le_advanced (c : Word) (n : Nat) : c.toNat ≤ (advanced c n).toNat := by
  have := c.isLt
  unfold advanced counterTop
  simp
  omega

/-! ### Timers (R2) -/

theorem timerDue_iff (t : Timer) : timerDue t = true ↔ t = some 0 := by
  cases t <;> simp [timerDue]

@[simp] theorem countDown_isSome (t : Timer) : (countDown t).isSome = t.isSome := by
  cases t <;> rfl

/-! ### Requests and responses (R157, R158) -/

/-- Taking a request and answering it moves the request out, the pointer on and the response in, and nothing else. -/
theorem respond_takeRequest (s : State) (q : Port) (c : Cell) (st : Status) (words : List Word) :
    respond q c st words (takeRequest q s) =
      { s with
        requests := s.requests.set q (s.requests.get q).tail
        pointer := nextPort q
        transmit := s.transmit.set q
          { s.transmit.get q with
            cells := (s.transmit.get q).cells ++
              [responseCell q c s.profile.responseHop s.identity.nodeId (if c.operation = 8#8 then 8#8 else c.count) st
                words] } } := by
  cases q <;> rfl

/-- Taking a request moves nothing that a table shows. -/
@[simp] theorem readWord_takeRequest (s : State) (q : Port) (table i : Nat) :
    readWord (takeRequest q s) table i = readWord s table i := rfl

section Turn
variable {close : (State → State) → State → State} {kind : Request} {serve : Port → Cell → State → State} {s : State}
  {q : Port} {c : Cell}

/-- A turn that is due for the row's kind is one event on the request it takes. -/
theorem turnAs_due (high : s.resetN = true) (due : s.nextTurn = some (q, c)) (h : c.request = kind) :
    turnAs close kind serve s = close (fun s => serve q c (takeRequest q s)) s := by
  simp [turnAs, due, high, h]

/-- A turn that is due for another row's kind changes nothing. -/
theorem turnAs_other (due : s.nextTurn = some (q, c)) (h : c.request ≠ kind) : turnAs close kind serve s = s := by
  simp [turnAs, due, h]

/-- A turn that is not due changes nothing. -/
theorem turnAs_none (due : s.nextTurn = none) : turnAs close kind serve s = s := by
  simp [turnAs, due]

theorem turn_due (high : s.resetN = true) (due : s.nextTurn = some (q, c)) (h : c.request = kind) :
    turn kind serve s = event (fun s => serve q c (takeRequest q s)) s := turnAs_due high due h

theorem turn_other (due : s.nextTurn = some (q, c)) (h : c.request ≠ kind) : turn kind serve s = s := turnAs_other due h

theorem turn_none (due : s.nextTurn = none) : turn kind serve s = s := turnAs_none due

end Turn

end Machine

end Sys2Proof
end

