-- ==== Sys2Proof/Laws/Events.lean ====
section
/-! SUPPORT. What the end of an event does: the own editions (R63), and the Event Unit's part in one lemma (R166 to R172). -/

namespace Sys2Proof.Machine

/-! ### What the live conditions are formed from -/

/-- The live conditions read the monitors, the engines, two flags of the Signalling Unit, the Resolver, the mode, the squelch
results and the counters. -/
theorem liveValues_congr {s t : State} (monitor : t.monitor = s.monitor) (engine : t.engine = s.engine)
    (neighbour : t.signalling.neighbourStandalone = s.signalling.neighbourStandalone)
    (mismatch : t.signalling.mapMismatch = s.signalling.mapMismatch) (resolver : t.resolver = s.resolver)
    (joined : t.joined = s.joined) (squelch : t.squelch = s.squelch) (counters : t.counters = s.counters) :
    liveValues t = liveValues s := by
  unfold liveValues sideConditions nodeConditions restoring isolated extraHeld anyLooped counterSaturated
  rw [monitor, engine, neighbour, mismatch, resolver, joined, squelch, counters]

/-! ### The own editions (R63) -/

theorem OwnEntry.advance_content (o now : OwnEntry) : (o.advance now).content = now.content := by
  unfold OwnEntry.advance
  split <;> rfl

@[simp] theorem OwnEntry.advance_self (o : OwnEntry) : o.advance o = o := by
  unfold OwnEntry.advance
  simp

/-- The edition after an event: unchanged where the content is, one more where it is not (R63). -/
theorem OwnEntry.advance_edition (o now : OwnEntry) :
    (o.advance now).edition = if now.content = o.content then now.edition else now.edition + 1 := by
  unfold OwnEntry.advance
  split <;> rfl

/-- An event that leaves the own entries as they stand advances no edition. -/
theorem advanceEditions_same {s u : State} (h : u.signalling.own = s.signalling.own) : advanceEditions s u = u := by
  unfold advanceEditions
  rw [← h, OwnEntry.advance_self, OwnEntry.advance_self]
  rfl

/-! ### The Event Unit -/

/-- A prompt touches the transmit queues, the notice-pending flag, the sequence number and the send attempts. -/
theorem promptNotice_frame (s : State) :
    promptNotice s =
      { s with
        transmit := (promptNotice s).transmit
        events := { s.events with
          pending := (promptNotice s).events.pending, sequence := (promptNotice s).events.sequence
          attempts := (promptNotice s).events.attempts } } := by
  unfold promptNotice
  split
  · rfl
  · split <;> rfl

/-- What one prompt does (R170, R171). -/
theorem promptNotice_spec (s : State) :
    (s.events.pending = true → promptNotice s = s) ∧
    (s.events.pending = false → noticeHasPlace s = true → promptNotice s = writeNotice s) ∧
    (s.events.pending = false → noticeHasPlace s = false → promptNotice s = s.setEvents { s.events with pending := true }) := by
  unfold promptNotice
  refine ⟨fun h => by rw [if_pos h], fun h p => ?_, fun h p => ?_⟩ <;> simp [h, p]

/-- The notice is formed from the Profile, the node ID in use, the latches, live values, sequence number and frame count
(R170). -/
theorem noticeCell_congr {s t : State} (profile : t.profile = s.profile) (identity : t.identity = s.identity)
    (sequence : t.events.sequence = s.events.sequence) (latches : t.events.latches = s.events.latches)
    (held : t.events.held = s.events.held) (frameCount : t.frameCount = s.frameCount) : noticeCell t = noticeCell s := by
  unfold noticeCell
  rw [profile, identity, sequence, latches, held, frameCount]

/-- The notice written joins the tail of the queue its route names, and is the notice of the state it leaves, but for its
sequence number (R170). -/
theorem writeNotice_transmit (s : State) :
    (formAlert (writeNotice s)).transmit = s.transmit.set s.profile.noticeRoute
      { s.transmit.get s.profile.noticeRoute with
        cells := (s.transmit.get s.profile.noticeRoute).cells ++
          [noticeCell
            { formAlert (writeNotice s) with
              events := { (formAlert (writeNotice s)).events with sequence := s.events.sequence } }] } := by
  have same : noticeCell s = noticeCell
      { formAlert (writeNotice s) with
        events := { (formAlert (writeNotice s)).events with sequence := s.events.sequence } } :=
    (noticeCell_congr rfl rfl rfl rfl rfl rfl).symm
  rw [← same]
  rfl

theorem observe_eq (s : State) :
    observe s = formAlert
      (if latchRequests s (liveValues s) &&& ~~~s.events.latches &&& s.events.notify == 0#32 then latched s
      else promptNotice (latched s)) := rfl

/-- The Event Unit touches its own registers, the transmit queues and ALERT_N. -/
theorem observe_frame (s : State) :
    observe s =
      { s with
        transmit := (observe s).transmit
        events := { (latched s).events with
          pending := (observe s).events.pending, sequence := (observe s).events.sequence
          attempts := (observe s).events.attempts }
        alertN := (latched s).events.latches &&& (latched s).events.alert == 0#32 } := by
  rw [observe_eq]
  split
  · rfl
  · rw [promptNotice_frame]
    rfl

/-- The end of an event touches the own editions, the Event Unit's registers, ALERT_N and the transmit queues, and nothing
else. -/
theorem event_frame (f : State → State) (s : State) :
    event f s =
      { f s with
        signalling := { (f s).signalling with own := (event f s).signalling.own }
        transmit := (event f s).transmit, events := (event f s).events, alertN := (event f s).alertN } := by
  unfold event
  rw [observe_frame]
  rfl

/-- The own entries after an event (R63). -/
theorem event_own (f : State → State) (s : State) (x : Side) :
    (event f s).signalling.own.get x = (s.signalling.own.get x).advance ((f s).signalling.own.get x) := by
  unfold event
  rw [observe_frame]
  cases x <;> rfl

theorem exists_getLsbD_of_ne_zero (w : Word) : w ≠ 0#32 ↔ ∃ i : Fin 32, w.getLsbD i = true := by
  constructor
  · intro h
    by_contra none
    push Not at none
    apply h
    apply BitVec.eq_of_getLsbD_eq
    intro i hi
    simpa using none ⟨i, hi⟩
  · rintro ⟨i, hi⟩ rfl
    simp at hi

/-- Where a state's held values, latches, enables and ALERT_N are those that the Event Unit leaves of s, they are what R166 to
R168 and R172 say, from registers e before the event. -/
theorem observed_of_latched {e : EventUnit} {s t : State} (held : s.events.held = e.held)
    (latches : s.events.latches = e.latches) (enables : EnablesKept e s.events) (live : liveValues t = liveValues s)
    (events : t.events.held = (latched s).events.held ∧ t.events.latches = (latched s).events.latches ∧
      EnablesKept (latched s).events t.events)
    (level : t.alertN = ((latched s).events.latches &&& (latched s).events.alert == 0#32)) :
    Observed e s.events.pulses t := by
  obtain ⟨rise, fall, notify, alert⟩ := enables
  obtain ⟨heldNow, latchesNow, riseNow, fallNow, notifyNow, alertNow⟩ := events
  refine ⟨heldNow.trans live.symm, fun i => ?_, ⟨riseNow.trans rise, fallNow.trans fall, notifyNow.trans notify,
    alertNow.trans alert⟩, ?_⟩
  · rw [latchesNow, heldNow]
    simp only [latched, State.setEvents_events, latchRequests, held, latches, rise, fall, BitVec.getLsbD_or,
      BitVec.getLsbD_and, BitVec.getLsbD_not, i.isLt, decide_true, Bool.true_and]
    cases e.latches.getLsbD i <;> simp
  · rw [level, latchesNow, alertNow, beq_eq_false_iff_ne, exists_getLsbD_of_ne_zero]
    simp

/-- The Event Unit's part from any state: registers e before the event, the pulses and transmit queues that the event left
(R166 to R172). -/
theorem observe_reported (e : EventUnit) (s : State) (held : s.events.held = e.held) (latches : s.events.latches = e.latches)
    (enables : EnablesKept e s.events) (pending : s.events.pending = e.pending) (sequence : s.events.sequence = e.sequence) :
    Reported e s.events.pulses s.transmit (observe s) := by
  have heldNow : (observe s).events.held = (latched s).events.held := by rw [observe_frame]
  have latchesNow : (observe s).events.latches = (latched s).events.latches := by rw [observe_frame]
  have route : (observe s).profile.noticeRoute = s.profile.noticeRoute := by rw [observe_frame]
  refine ⟨observed_of_latched held latches enables ?_ ⟨heldNow, latchesNow, ?_⟩ ?_, ?_⟩
  · rw [observe_frame]
    exact liveValues_congr rfl rfl rfl rfl rfl rfl rfl rfl
  · rw [observe_frame]
    exact ⟨rfl, rfl, rfl, rfl⟩
  · rw [observe_frame]
  · have newly : (observe s).events.latches &&& ~~~e.latches &&& e.notify =
        latchRequests s (liveValues s) &&& ~~~s.events.latches &&& s.events.notify := by
      rw [latchesNow, ← latches, ← enables.2.2.1]
      apply BitVec.eq_of_getLsbD_eq
      intro i hi
      simp only [latched, State.setEvents_events, BitVec.getLsbD_and, BitVec.getLsbD_or, BitVec.getLsbD_not, hi, decide_true,
        Bool.true_and]
      cases s.events.latches.getLsbD i <;> simp
    rw [newly, route, ← pending]
    by_cases quiet : latchRequests s (liveValues s) &&& ~~~s.events.latches &&& s.events.notify = 0#32
    · rw [if_neg (by simp [quiet])]
      rw [observe_eq, if_pos (by simp [quiet])]
      exact ⟨rfl, sequence, rfl⟩
    · have eq : observe s = formAlert (promptNotice (latched s)) := by
        rw [observe_eq, if_neg (by simpa using quiet)]
      obtain ⟨waiting, written, full⟩ := promptNotice_spec (latched s)
      cases p : s.events.pending
      · rw [if_pos ⟨quiet, rfl⟩]
        by_cases place : (s.transmit.get s.profile.noticeRoute).occupancy < 8
        · have w := eq.trans (congrArg formAlert (written p (decide_eq_true place)))
          rw [if_pos place, w, ← sequence]
          exact ⟨writeNotice_transmit (latched s), rfl, rfl⟩
        · have w := eq.trans (congrArg formAlert (full p (decide_eq_false place)))
          rw [if_neg place, w]
          exact ⟨rfl, sequence, rfl⟩
      · rw [if_neg (by simp), eq, waiting p]
        exact ⟨rfl, sequence, p⟩

/-- A READ-CLEAR is observed as any event, and touches the Event Unit's held values, latches and pulses, ALERT_N and, by what it
clears, nothing else (R166 to R170). -/
theorem observeReadClear_observed (e : EventUnit) (s : State) (held : s.events.held = e.held)
    (latches : s.events.latches = e.latches) (enables : EnablesKept e s.events) :
    Observed e s.events.pulses (observeReadClear s) ∧
      observeReadClear s =
        { s with
          events := (latched s).events, alertN := (latched s).events.latches &&& (latched s).events.alert == 0#32 } :=
  ⟨observed_of_latched held latches enables (liveValues_congr rfl rfl rfl rfl rfl rfl rfl rfl) ⟨rfl, rfl, rfl, rfl, rfl, rfl⟩ rfl,
    rfl⟩

/-- An event whose work leaves the Event Unit's registers as they stood, but for the pulses that occurred in it and the send
attempts it prompted, ends as R166 to R172 say. -/
theorem event_reported (f : State → State) (s : State) (held : (f s).events.held = s.events.held)
    (latches : (f s).events.latches = s.events.latches) (enables : EnablesKept s.events (f s).events)
    (pending : (f s).events.pending = s.events.pending) (sequence : (f s).events.sequence = s.events.sequence) :
    Reported s.events (f s).events.pulses (f s).transmit (event f s) :=
  observe_reported s.events (advanceEditions s (f s)) held latches enables pending sequence

/-- Where no live condition has changed and no pulse has occurred, no latch is asked for. -/
theorem latched_quiet {s : State} (held : liveValues s = s.events.held) (pulses : s.events.pulses = 0#32) :
    latchRequests s (liveValues s) = 0#32 ∧ latched s = s := by
  have asked : latchRequests s (liveValues s) = 0#32 := by
    rw [held]
    unfold latchRequests
    rw [pulses]
    apply BitVec.eq_of_getLsbD_eq
    intro i hi
    simp
  refine ⟨asked, ?_⟩
  unfold latched
  rw [asked, held, BitVec.or_zero]
  conv => rhs; rw [show s = s.setEvents { s.events with pulses := 0#32 } by rw [← pulses]; rfl]

/-- Then the Event Unit changes nothing but the level of ALERT_N, whichever event it is. -/
theorem observe_quiet {s : State} (held : liveValues s = s.events.held) (pulses : s.events.pulses = 0#32) :
    observe s = { s with alertN := s.events.latches &&& s.events.alert == 0#32 } ∧ observe s = observeReadClear s := by
  obtain ⟨asked, same⟩ := latched_quiet held pulses
  have eq : observe s = formAlert s := by simp [observe_eq, asked, same]
  exact ⟨eq, by rw [eq, observeReadClear, same]⟩

/-- An event that moves no live condition, raises no pulse and leaves the own entries and the Event Unit as they stand is over
when its work is done, but for the level of ALERT_N. -/
theorem event_quiet {f : State → State} {s : State} (live : liveValues (f s) = (f s).events.held)
    (pulses : (f s).events.pulses = 0#32) (own : (f s).signalling.own = s.signalling.own) :
    event f s = { f s with alertN := (f s).events.latches &&& (f s).events.alert == 0#32 } := by
  unfold event
  rw [advanceEditions_same own]
  exact (observe_quiet live pulses).1

/-- Such a READ-CLEAR ends as such an event does. -/
theorem readClearEvent_quiet {f : State → State} {s : State} (live : liveValues (f s) = (f s).events.held)
    (pulses : (f s).events.pulses = 0#32) (own : (f s).signalling.own = s.signalling.own) :
    readClearEvent f s = event f s := by
  unfold event readClearEvent
  rw [advanceEditions_same own, (observe_quiet live pulses).2]

/-- In a sound state ALERT_N already stands at its level (R172). -/
theorem EventsSound.level {s : State} (h : EventsSound s) : (s.events.latches &&& s.events.alert == 0#32) = s.alertN := by
  have := h.alert
  by_cases z : s.events.latches &&& s.events.alert = 0#32 <;> cases a : s.alertN <;> simp_all

/-- A turn that only takes a request and answers it is the answered state, in a sound state (R157, R158). -/
theorem event_answered {s : State} (h : EventsSound s) (q : Port) (c : Cell) (st : Status) (words : List Word) :
    event (fun s => respond q c st words (takeRequest q s)) s = s.answered q c st words := by
  have same : respond q c st words (takeRequest q s) = s.answered q c st words := respond_takeRequest s q c st words
  have quiet := event_quiet (f := fun s => respond q c st words (takeRequest q s)) (s := s)
    (by rw [same]; exact (liveValues_congr rfl rfl rfl rfl rfl rfl rfl rfl).trans h.held.symm)
    (by rw [same]; exact h.pulses) (by rw [same]; rfl)
  rw [quiet, same]
  have := h.level
  unfold State.answered
  simp [this]

end Sys2Proof.Machine
end

