-- ==== Sys2Proof/Laws/Restoration.lean ====
section
/-! SUPPORT. What a report, a table-change notice and their chain can touch (R63, R79, R86, R96, R98, R100, R110), and what a
Loop Engine can do. -/

namespace Sys2Proof.Machine

/-- t differs from s at most in the conditions, the own entries, the Resolver's results, the Loop Engines and the pulses of the
event being taken. -/
def RestorationFrame (s t : State) : Prop :=
  t = { s with
    condition := t.condition, signalling := { s.signalling with own := t.signalling.own }, resolver := t.resolver,
    engine := t.engine, events := { s.events with pulses := t.events.pulses } }

theorem RestorationFrame.refl (s : State) : RestorationFrame s s := rfl

theorem RestorationFrame.trans {s t u : State} (h : RestorationFrame s t) (k : RestorationFrame t u) : RestorationFrame s u := by
  unfold RestorationFrame at *
  rw [k, h]

theorem formAnnounced_frame (s : State) : RestorationFrame s (formAnnounced s) := rfl

theorem recompute_frame (s : State) : RestorationFrame s (recompute s) := rfl

theorem engineNotice_frame (x : Side) (old : Bool) (s : State) : RestorationFrame s (engineNotice x old s) := rfl

theorem updateCondition_frame (s : State) (x : Side) (f : ConditionSide → ConditionSide) :
    RestorationFrame s (s.updateCondition x f) := rfl

theorem dropManual_frame (s : State) : RestorationFrame s (dropManual s) := by
  unfold dropManual
  split <;> rfl

theorem noticePass_frame (s : State) : RestorationFrame s (noticePass s) :=
  (((dropManual_frame s).trans (recompute_frame _)).trans (engineNotice_frame .east _ _)).trans (engineNotice_frame .west _ _)

/-- What a table-change notice can touch. -/
theorem tableNotice_frame (s : State) : RestorationFrame s (tableNotice s) := by
  unfold tableNotice
  dsimp only
  split
  · exact noticePass_frame s
  · exact (noticePass_frame s).trans (noticePass_frame _)

/-- What a change of the announced conditions can touch. -/
theorem announce_frame (s : State) : RestorationFrame s (announce s) := by
  unfold announce
  dsimp only
  split
  · exact (formAnnounced_frame s).trans (tableNotice_frame _)
  · exact formAnnounced_frame s

/-- What a report of a Span Monitor can touch. -/
theorem takeReport_frame (x : Side) (s : State) (r : Report) : RestorationFrame s (takeReport x s r) :=
  (updateCondition_frame s x _).trans (announce_frame _)

theorem takeReports_frame (x : Side) (rs : List Report) (s : State) : RestorationFrame s (rs.foldl (takeReport x) s) := by
  induction rs generalizing s with
  | nil => exact RestorationFrame.refl s
  | cons r rs ih => exact (takeReport_frame x s r).trans (ih _)

/-- The end of a Span Monitor event: the side's monitor takes its flag and hold-off, and the rest is the reports' work. -/
theorem closeMonitor_frame (x : Side) (changes : List Report) (s : State) :
    RestorationFrame
      (s.setMonitor (s.monitor.set x ((s.monitor.get x).formFlag s.joined s.profile.holdOffTime).1))
      (closeMonitor x changes s) :=
  takeReports_frame x _ _

/-- The hold-off starts at JOIN on a side whose flag is present (R28), and the rest is the report's work. -/
theorem joinHoldOff_frame (x : Side) (s : State) :
    RestorationFrame
      (s.setMonitor (s.monitor.set x
        (if (s.monitor.get x).flag then ((s.monitor.get x).startHoldOff s.profile.holdOffTime).1 else s.monitor.get x)))
      (joinHoldOff x s) := by
  unfold joinHoldOff
  dsimp only
  split
  · exact takeReports_frame x _ _
  · rw [Sides.set_get]
    exact RestorationFrame.refl s

/-! ### Conditions by code -/

theorem Condition.code_higher (a b : Condition) : (a.higher b).code = max a.code b.code := by
  cases a <;> cases b <;> rfl

theorem Condition.code_injective {a b : Condition} (h : a.code = b.code) : a = b := by
  cases a <;> cases b <;> first | rfl | exact absurd h (by decide)

/-! ### The Loop Engines -/

/-- What a change of the loop target does to an engine (R112, R115, R116, R120). -/
theorem Engine.retarget_spec (e : Engine) (timer : Timer) (new : Bool) :
    e.retarget timer new new = e ∧
    (e.phase = .idle → e.retarget timer false true = ⟨.bridged, timer, e.silent⟩) ∧
    (e.phase = .unlooping → e.retarget timer false true = ⟨.bridged, timer, e.silent⟩) ∧
    (e.phase = .bridged → e.retarget timer true false = ⟨.idle, none, false⟩) ∧
    (e.phase = .looped → e.retarget timer true false = ⟨.unlooping, timer, e.silent⟩) := by
  obtain ⟨p, c, z⟩ := e
  cases p <;> simp [Engine.retarget]

/-- What a partner test does to an engine (R113, R117, R118). -/
theorem Engine.partnerTest_spec (e : Engine) (a : Action) :
    (e.phase = .idle → e.partnerTest a = e) ∧
    (e.phase = .bridged → e.partnerTest a = if a = .pass then e else ⟨.looped, none, false⟩) ∧
    (e.phase = .looped → e.partnerTest a = if a = .pass then e else ⟨.looped, e.confirm, false⟩) ∧
    (e.phase = .unlooping → e.partnerTest a = if a = .looped then e else ⟨.idle, none, false⟩) := by
  obtain ⟨p, c, z⟩ := e
  cases p <;> cases a <;> simp [Engine.partnerTest, Action.bridging, Action.notSelecting]

/-- An engine is BRIDGED or LOOPED after a notice exactly when its target is loop, given that it was so before. -/
theorem Engine.notice_target (e : Engine) (timer : Timer) (old new : Bool) (a : Action)
    (h : old = true ↔ (e.phase = .bridged ∨ e.phase = .looped)) :
    new = true ↔ (((e.retarget timer old new).partnerTest a).phase = .bridged ∨
      ((e.retarget timer old new).partnerTest a).phase = .looped) := by
  obtain ⟨p, c, z⟩ := e
  cases p <;> cases old <;> cases new <;> cases a <;>
    simp_all [Engine.retarget, Engine.partnerTest, Action.bridging, Action.notSelecting]

end Sys2Proof.Machine
end

