-- ==== Sys2Proof/Laws/Line.lean ====
section
/-! SUPPORT. What the operations of a frame's arrival and of a local frame start can do: buffers, slips, queues, routing, the merge,
the expiries and the swap that fall due, and the words stored in a table. -/

namespace Sys2Proof.Machine

/-! ### Buffers and slips (R14 to R17) -/

theorem slip_eq (x : Side) (s : State) : slip x s = (s.bump (.slips x) 1).raise (.slip x) := rfl

/-- What an arrival at an alignment buffer or a read of one can touch: the buffers, the counters and a pulse. -/
def BufferFrame (s t : State) : Prop :=
  t = { s with
    buffer := t.buffer, counters := t.counters, events := { s.events with pulses := t.events.pulses } }

theorem bufferArrival_frame (x : Side) (f : LineSlots) (s : State) : BufferFrame s (bufferArrival x f s) := by
  unfold bufferArrival
  dsimp only
  split
  · rfl
  · rfl
  · split <;> rfl

theorem readBuffer_frame (x : Side) (s : State) : BufferFrame s (readBuffer x s) := by
  unfold readBuffer
  dsimp only
  split <;> rfl

/-- A read leaves the side's buffer as R14 to R16 say. -/
theorem readBuffer_buffer (x : Side) (s : State) : (readBuffer x s).buffer = s.buffer.set x (s.buffer.get x).read.2.1 := by
  unfold readBuffer
  dsimp only
  split <;> rfl

/-- A buffer that took a frame holds 1 to 4 (R14, R17). -/
theorem Buffer.store_length (b : Buffer) (f : LineSlots) (h : b.frames.length ≤ 4) :
    1 ≤ (b.store f).frames.length ∧ (b.store f).frames.length ≤ 4 := by
  unfold Buffer.store Config.bufferCapacity
  dsimp only
  split
  · simp
    omega
  · simp
    omega

/-- The mode and the last frame read stay as an arrival found them. -/
theorem Buffer.store_kept (b : Buffer) (f : LineSlots) : (b.store f).mode = b.mode ∧ (b.store f).last = b.last := ⟨rfl, rfl⟩

/-- A read never leaves more frames than it found. -/
theorem Buffer.read_length (b : Buffer) : b.read.2.1.frames.length ≤ b.frames.length := by
  unfold Buffer.read
  split <;> simp_all

/-! ### Queues and routing (R150 to R155) -/

theorem transitDrop_eq (s : State) : transitDrop s = (s.bump .transitDrops 1).raise .transitDrop := rfl

/-- A cell that a transmit queue takes, or drops: the queues, the counters and a pulse. -/
theorem queueCell_frame (q : Port) (c : Cell) (s : State) :
    queueCell q c s =
      { s with
        transmit := (queueCell q c s).transmit, counters := (queueCell q c s).counters
        events := { s.events with pulses := (queueCell q c s).events.pulses } } := by
  unfold queueCell
  split <;> rfl

theorem queueRequest_frame (q : Port) (c : Cell) (s : State) :
    queueRequest q c s =
      { s with
        requests := (queueRequest q c s).requests, counters := (queueRequest q c s).counters
        events := { s.events with pulses := (queueRequest q c s).events.pulses } } := by
  unfold queueRequest
  split <;> rfl

/-- What the Cell Router can touch. -/
def RoutingFrame (s t : State) : Prop :=
  t = { s with
    requests := t.requests, transmit := t.transmit, counters := t.counters
    events := { s.events with pulses := t.events.pulses } }

theorem routeLineCell_frame (x : Side) (c : Cell) (s : State) : RoutingFrame s (routeLineCell x c s) := by
  unfold RoutingFrame routeLineCell
  split
  · rfl
  split
  · rfl
  split
  · rfl
  split
  · split
    · rw [queueRequest_frame]
    · rw [queueCell_frame]
  split
  · rfl
  · rw [queueCell_frame]

theorem routeTributaryCell_frame (c : Cell) (s : State) : RoutingFrame s (routeTributaryCell c s) := by
  unfold RoutingFrame routeTributaryCell
  split
  · rfl
  split
  · split
    · rw [queueRequest_frame]
    · rfl
  split
  · split
    · rfl
    · rw [queueCell_frame]
  · split
    · rfl
    · rw [queueCell_frame]
  · rfl

theorem routeManagement_frame {route : Cell → State → State} (m : Management) (s : State)
    (h : ∀ c s, RoutingFrame s (route c s)) : RoutingFrame s (routeManagement route m s) := by
  unfold routeManagement
  split
  · exact h _ _
  · rfl

/-! ### Vectors (R68 to R79) -/

/-- Noting a vector touches two live conditions of the Signalling Unit, or the vectors-discarded counter. -/
theorem noteVector_frame (s : State) (x : Side) (v : SigVector) :
    noteVector s x v =
      { s with
        signalling := { s.signalling with
          neighbourStandalone := (noteVector s x v).signalling.neighbourStandalone
          mapMismatch := (noteVector s x v).signalling.mapMismatch }
        counters := (noteVector s x v).counters } := by
  unfold noteVector
  split <;> rfl

/-- The comparison of a vector's entries touches the table, the own entries and the entries-ignored counter. -/
theorem mergeEntries_frame (start : Sides OwnEntry) (s : State) (x : Side) (v : SigVector) (p : Nat) :
    ∃ rct own k, mergeEntries start s x v p =
      (s.setSignalling { s.signalling with rct := rct, own := own }).bump (.entriesIgnored x) k :=
  ⟨_, _, _, rfl⟩

/-- A catch-up changes no content (R78). -/
theorem catchUp_content (start : Condition × Action) (o : OwnEntry) (r : Received) :
    (catchUp start o r).content = o.content := by
  unfold catchUp
  split <;> rfl

/-- What an adoption leaves: the held entry or the received one, learned from the side (R77). -/
theorem adopt_cases (x : Side) (held : Entry) (r : Received) :
    adopt x held r = held ∨ adopt x held r = ⟨r.condition, r.action, r.edition, some (.line x)⟩ := by
  unfold adopt
  split
  · exact .inr rfl
  · exact .inl rfl

/-! ### The local frame start and what falls due at one (R1, R2, R19, R137; log 6) -/

/-- What the issue of a local frame start touches. -/
theorem issueFrameStart_frame (s : State) :
    let t := issueFrameStart s
    t = { s with
      frameCount := s.frameCount + 1#32, instant := ⟨true, true⟩, monitor := t.monitor, condition := t.condition,
      engine := t.engine } := rfl

theorem removeCell_frame (q : Port) (s : State) :
    let t := removeCell q s
    t = { s with transmit := t.transmit, events := { s.events with attempts := t.events.attempts } } := by
  unfold removeCell
  dsimp only
  split
  · rfl
  · split <;> rfl

/-- A swap is taken at a local frame start that the Table Store has still to take, and otherwise nothing happens. -/
theorem takeSwap_cases (s : State) :
    takeSwap s = s ∨ ∃ pc, s.tables.commit = some pc ∧ s.resetN = true ∧ s.instant.swapTurn = true ∧
      takeSwap s = event (swapTables pc) s := by
  unfold takeSwap
  split
  · next pc h =>
    split
    · next g => exact .inr ⟨pc, h, by simp_all, by simp_all, rfl⟩
    · exact .inl rfl
  · exact .inl rfl

theorem takeHoldOffExpiry_cases (x : Side) (s : State) :
    takeHoldOffExpiry x s = s ∨ s.resetN = true ∧ (s.monitor.get x).holdOffTimer = some 0 ∧
      (s.monitor.get x).holdOff = .holding ∧ takeHoldOffExpiry x s = event (holdOffExpires x) s := by
  unfold takeHoldOffExpiry timerDue
  split <;> simp_all

theorem takeSettleMaskExpiry_cases (x : Side) (s : State) :
    takeSettleMaskExpiry x s = s ∨ s.resetN = true ∧ (s.monitor.get x).settle = some 0 ∧
      takeSettleMaskExpiry x s = event (settleExpires x) s := by
  unfold takeSettleMaskExpiry timerDue
  split <;> simp_all

theorem takeWtrExpiry_cases (x : Side) (s : State) :
    takeWtrExpiry x s = s ∨ s.resetN = true ∧ (s.condition.get x).wtr = some 0 ∧ (s.condition.get x).detected = .hold ∧
      takeWtrExpiry x s = event (wtrExpires x) s := by
  unfold takeWtrExpiry timerDue
  split <;> simp_all

theorem takeConfirmTimerExpiry_cases (x : Side) (s : State) :
    takeConfirmTimerExpiry x s = s ∨ s.resetN = true ∧ (s.engine.get x).confirm = some 0 ∧
      ((s.engine.get x).phase = .bridged ∨ (s.engine.get x).phase = .unlooping) ∧
      takeConfirmTimerExpiry x s = event (confirmExpires x) s := by
  unfold takeConfirmTimerExpiry timerDue
  split <;> simp_all

/-- What holds of a state and is kept by each take holds after all of them. -/
theorem takeOverdue_induction {P : State → Prop} (s : State) (start : P s)
    (holdOff : ∀ x u, P u → P (takeHoldOffExpiry x u)) (settle : ∀ x u, P u → P (takeSettleMaskExpiry x u))
    (wtr : ∀ x u, P u → P (takeWtrExpiry x u)) (confirm : ∀ x u, P u → P (takeConfirmTimerExpiry x u))
    (swap : ∀ u, P u → P (takeSwap u)) : P (takeOverdue s) :=
  swap _ (confirm _ _ (confirm _ _ (wtr _ _ (wtr _ _ (settle _ _ (settle _ _ (holdOff _ _ (holdOff _ _ start))))))))

/-- Where nothing is due nothing is taken. -/
theorem takeOverdue_nothingDue {s : State} (h : NothingDue s) : takeOverdue s = s := by
  have swap : takeSwap s = s := by
    rcases takeSwap_cases s with k | ⟨pc, k, -, w, -⟩
    · exact k
    · rcases h.swap with n | n <;> simp_all
  refine takeOverdue_induction (P := fun u => u = s) s rfl ?_ ?_ ?_ ?_ fun u k => k ▸ swap
  all_goals rintro x u rfl
  · exact (takeHoldOffExpiry_cases x u).elim id fun k => absurd k.2.1 (h.holdOff x)
  · exact (takeSettleMaskExpiry_cases x u).elim id fun k => absurd k.2.1 (h.settle x)
  · exact (takeWtrExpiry_cases x u).elim id fun k => absurd k.2.1 (h.wtr x)
  · exact (takeConfirmTimerExpiry_cases x u).elim id fun k => absurd k.2.1 (h.confirm x)

/-- The frames of a local frame start that is at hand are one event (R1, R19). -/
theorem frameStart_frames {s : State} (h : FrameStartDue s) :
    frameStart .frames s = event (fun u => buildFrames (if s.instant.begun then u else issueFrameStart u)) s := by
  unfold frameStart
  rcases h with h | h
  · simp [h]
  · cases b : s.instant.begun <;> simp [takeOverdue_nothingDue h]

/-- Running the rows of what is due is taking it. -/
theorem runRows_dueRows (s : State) : runRows dueRows s = some (takeOverdue s) := by
  simp only [dueRows, runRows, exec, execHoldOffExpiry, execSettleMaskExpiry, execWtrExpiry, execConfirmTimerExpiry,
    execCommitSwap, takeOverdue, List.foldl]

/-! ### Tables (R133, R161, R162, R169) -/

/-- What a word stored can touch. -/
def StoreFrame (s t : State) : Prop :=
  t = { s with
    identity := t.identity, profile := t.profile, ringMap := t.ringMap, tables := t.tables, events := t.events }

theorem StoreFrame.trans {s t u : State} (h : StoreFrame s t) (k : StoreFrame t u) : StoreFrame s u := by
  unfold StoreFrame at *
  rw [k, h]

theorem StoreFrame.refl (s : State) : StoreFrame s s := rfl

theorem storeWord_frame (s : State) (table i : Nat) (w : Word) : StoreFrame s (storeWord s table i w) := by
  unfold storeWord
  generalize slotOfWord w = o
  generalize circuitOfWord w = c
  repeat' split
  all_goals rfl

/-- What the words of a request stored can touch. -/
theorem storeWords_frame (s : State) (table index : Nat) (words : List Word) :
    StoreFrame s (storeWords s table index words) := by
  unfold storeWords
  generalize words.zipIdx index = l
  induction l generalizing s with
  | nil => exact .refl s
  | cons w l ih => exact (storeWord_frame s table w.2 w.1).trans (ih _)

end Sys2Proof.Machine
end

