-- ==== Sys2Proof/Tests/Slice0.lean ====
section
/-! SUPPORT. Tests of single steps and operations against values that the manual gives, and for each obligation with hypotheses a state and operands that meet all of them together (`witness_` and its name). -/

namespace Sys2Proof.Tests

open Sys2Proof.Machine

set_option Elab.async false

/-! ### The states of the tests -/

/-- A monitor without a defect. -/
def healthy : Monitor :=
  { defects := ⟨false, false, false, false, false⟩, flag := false, muteCount := 0, holdOff := .absent, holdOffTimer := none,
    density := 0, quality := .good, settle := none }

/-- A ring of three nodes: IDs 11, 4, 27 at positions 0, 1, 2. -/
def ring : RingMap :=
  ⟨3, 0x2A10#16, Vector.ofFn fun i : Fin 32 => [some 11, some 4, some 27].getD i.val none⟩

/-- Node `id` of the ring before JOIN: both receivers aligned, both buffers RUNNING with one frame each. -/
def aloneAs (id : BitVec 6) : State :=
  { State.reset with
    receiver := ⟨⟨.aligned, 0, some 0#32⟩, ⟨.aligned, 0, some 0#32⟩⟩
    buffer := ⟨⟨.running, [LineSlots.void], some LineSlots.void⟩, ⟨.running, [LineSlots.void], some LineSlots.void⟩⟩
    monitor := ⟨healthy, healthy⟩, identity := ⟨id, id, false, none⟩, ringMap := ring
    events := { EventUnit.reset ⟨false, false⟩ with held := 0#32 } }

/-- Node 4 of the ring before JOIN. -/
def alone : State := aloneAs 4#6

/-- Node `id` of the ring, JOINED at position p, with nothing wrong and no remote entry learned. -/
def joinedAt (id : BitVec 6) (p : Fin 32) : State :=
  { aloneAs id with
    identity := ⟨id, id, true, some p⟩
    resolver := ⟨0#32, some ((p.val + 2) % 3, (p.val + 1) % 3), true, .normal, ⟨false, false⟩⟩ }

/-- Node 4 of the ring, JOINED at position 1. -/
def idle : State := joinedAt 4#6 1

/-- Held values. -/
def withHeld (w : Word) (s : State) : State := { s with events := { s.events with held := w } }

/-- Side x of a part holds a condition, an own entry and an engine, its partner's entry, number i of the table, was learned, and
the Resolver and the held values stand as given. -/
def looping (s : State) (x : Side) (c : ConditionSide) (o : OwnEntry) (e : Engine) (i : Fin 64) (partner : Entry)
    (r : Resolver) (w : Word) : State :=
  withHeld w
    { s with
      condition := s.condition.set x c, engine := s.engine.set x e, resolver := r
      signalling := { s.signalling with own := s.signalling.own.set x o, rct := s.signalling.rct.set i partner } }

/-- Span 1 restored, as node 4 sees it. -/
def eastCut : Resolver := ⟨0x00000002#32, some (2, 1), false, .loopEast, ⟨true, false⟩⟩

/-- Node 4, its East side CUT and LOOPED with its partner. -/
def eastLooped : State :=
  looping idle .east ⟨.cut, none, .none, .cut⟩ ⟨.cut, .looped, 2⟩ ⟨.looped, none, false⟩ 5
    ⟨.cut, .looped, 2, some (.line .east)⟩ eastCut 0x00340000#32

/-- Node 27, whose table agrees with that of `eastLooped`. -/
def westLooped : State :=
  looping (joinedAt 27#6 2) .west ⟨.cut, none, .none, .cut⟩ ⟨.cut, .looped, 2⟩ ⟨.looped, none, false⟩ 2
    ⟨.cut, .looped, 2, some (.line .west)⟩ ⟨0x00000002#32, some (2, 1), false, .loopWest, ⟨false, true⟩⟩ 0x00340000#32

/-- Node 4, its East side on HOLD, the last local frame start of its WTR timer issued. -/
def waiting : State :=
  looping idle .east ⟨.hold, some 0, .none, .hold⟩ ⟨.hold, .looped, 3⟩ ⟨.looped, none, false⟩ 5
    ⟨.idle, .looped, 2, some (.line .east)⟩ eastCut 0x00340000#32

/-- Node 4, its East engine BRIDGED and unanswered, the last local frame start of its confirm timer issued. -/
def bridging : State :=
  looping idle .east ⟨.cut, none, .none, .cut⟩ ⟨.cut, .bridged, 1⟩ ⟨.bridged, some 0, false⟩ 5 Entry.unlearned
    eastCut 0x00340000#32

/-- Node 4, its East engine UNLOOPING while its partner still selects, the last local frame start of its
confirm timer issued. -/
def unlooping : State :=
  looping idle .east ⟨.idle, none, .none, .idle⟩ ⟨.idle, .bridged, 4⟩ ⟨.unlooping, some 0, false⟩ 5
    ⟨.idle, .looped, 2, some (.line .east)⟩ ⟨0#32, some (0, 2), false, .drain, ⟨false, false⟩⟩ 0x00300000#32

/-- A JOINED part whose East receiver is in the given state outside ALIGNED, with its LOS pin at the given level. -/
def unaligned (a : Machine.Alignment) (los : Bool) : State :=
  withHeld (if los then 3#32 else 2#32)
    { idle with
      losPin := ⟨los, false⟩, receiver := ⟨⟨a, 0, none⟩, idle.receiver.west⟩
      buffer := ⟨⟨.flushed, [], none⟩, idle.buffer.west⟩
      monitor :=
        ⟨{ healthy with defects := ⟨los, true, false, false, false⟩, flag := true, holdOff := .standing }, healthy⟩ }

/-- The East side of a part HOLDING, as many local frame starts still to count. -/
def holding (left : Nat) : State :=
  { unaligned .search false with
    monitor :=
      ⟨{ healthy with
        defects := ⟨false, true, false, false, false⟩, flag := true, holdOff := .holding, holdOffTimer := some left }, healthy⟩ }

/-- RESET_N low. -/
def low : State := (resetBlocks ⟨4#6, 4#6, false, none⟩ idle).setResetN false

/-- A request from the tributary port, with both checks right. -/
def request (operation table count index : Nat) (data : List Word) : Cell :=
  Cell.sealed
    { kind := 1#8, route := 3#8, hop := 1#8, destination := 63#8, source := 11#8, tag := 0x35#8
      operation := BitVec.ofNat 8 operation, status := 0#8, table := BitVec.ofNat 8 table, count := BitVec.ofNat 8 count
      index := BitVec.ofNat 16 index, headerCheck := 0#16, data := Vector.ofFn fun i => data.getD i.val 0#32, dataCheck := 0#16 }

/-- A COMMAND request. -/
def commandRequest (code : Nat) : Cell := request 7 0 0 0 [BitVec.ofNat 32 code]

/-- A part with one request waiting in its Local queue. -/
def asked (s : State) (c : Cell) : State := { s with requests := ⟨[], [], [c]⟩ }

/-- A line frame with no cell and VOID slots. -/
def frameWith (v : SigVector) (m : Management) : LineFrame :=
  ⟨Config.alignmentWord, 0#32, v, m, LineSlots.void⟩

/-! ### The states are sound -/

/-- Every state of the tests above that is not on its way through alignment. -/
theorem restorations :
    ∀ s ∈ [idle, alone, eastLooped, westLooped, waiting, bridging, unlooping], RestorationSound s ∧ EventsSound s := by
  simp only [List.forall_mem_cons, List.not_mem_nil, false_imp_iff, implies_true, and_true]
  refine ⟨?_, ?_, ?_, ?_, ?_, ?_, ?_⟩ <;> refine ⟨⟨?_, ?_, fun x => ?_, fun _ x => ?_, ?_, fun x => ?_⟩, ?_⟩ <;>
    first
      | decide +kernel
      | constructor <;> decide +kernel
      | cases x <;> decide +kernel
      | cases x <;> constructor <;> decide +kernel

theorem idle_restoration : RestorationSound idle := (restorations idle (by simp)).1
theorem alone_restoration : RestorationSound alone := (restorations alone (by simp)).1
theorem eastLooped_restoration : RestorationSound eastLooped := (restorations eastLooped (by simp)).1
theorem waiting_restoration : RestorationSound waiting := (restorations waiting (by simp)).1
theorem bridging_restoration : RestorationSound bridging := (restorations bridging (by simp)).1
theorem unlooping_restoration : RestorationSound unlooping := (restorations unlooping (by simp)).1

theorem idle_events : EventsSound idle := (restorations idle (by simp)).2
theorem alone_events : EventsSound alone := (restorations alone (by simp)).2
theorem waiting_events : EventsSound waiting := (restorations waiting (by simp)).2
theorem bridging_events : EventsSound bridging := (restorations bridging (by simp)).2
theorem unlooping_events : EventsSound unlooping := (restorations unlooping (by simp)).2

/-- `idle` with one command waiting. -/
def queued (c : Instr) : State := { idle with pending := [c] }

theorem sounds : ∀ s ∈ [idle, queued (.losAssert .east), waiting], Sound s := by
  simp only [List.forall_mem_cons, List.not_mem_nil, false_imp_iff, implies_true, and_true]
  refine ⟨?_, ?_, ?_⟩ <;>
    refine ⟨⟨fun h => absurd h (by decide), fun x => ?_, fun x => ?_⟩,
      ⟨?_, ?_, fun x => ?_, fun _ x => ?_, ?_, fun x => ?_⟩, ?_, ⟨fun q => ?_, fun q => ?_, fun q => ?_⟩, ?_, ?_,
      ⟨by decide, fun x n => ?_, fun x n => ?_, fun x n => ?_, fun x n => ?_⟩⟩ <;>
    first
      | decide +kernel
      | constructor <;> decide +kernel
      | cases x <;> decide +kernel
      | cases q <;> decide +kernel
      | cases x <;> constructor <;> decide +kernel
      | intro h; cases x <;> cases h <;> decide

theorem idle_sound : Sound idle := sounds idle (by simp)
theorem waiting_sound : Sound waiting := sounds waiting (by simp)

theorem idle_reception : ReceptionSound idle := idle_sound.reception

/-- Waiting requests are no part of what restoration rests on. -/
theorem asked_restoration {s : State} (h : RestorationSound s) (c : Cell) : RestorationSound (asked s c) where
  identity := ⟨h.identity.standalone, h.identity.complete, h.identity.position⟩
  rct := ⟨h.rct.unlearned, h.rct.remote, h.rct.standalone, h.rct.inert⟩
  condition := fun x =>
    ⟨(h.condition x).wtr, (h.condition x).announced, (h.condition x).commands, (h.condition x).ownCondition,
      (h.condition x).ownAction⟩
  manual := h.manual
  resolver := h.resolver
  engine := fun x =>
    ⟨(h.engine x).target, (h.engine x).confirm, (h.engine x).silent, (h.engine x).standalone, (h.engine x).waiting,
      (h.engine x).releasing, (h.engine x).unanswered⟩

/-- Nor is a COMMIT that waits. -/
theorem committed_restoration {s : State} (h : RestorationSound s) (i : FrameInstant) (t : Tables) (q : Ports TransmitQueue) :
    RestorationSound { s with instant := i, tables := t, transmit := q } where
  identity := ⟨h.identity.standalone, h.identity.complete, h.identity.position⟩
  rct := ⟨h.rct.unlearned, h.rct.remote, h.rct.standalone, h.rct.inert⟩
  condition := fun x => let c := h.condition x; ⟨c.wtr, c.announced, c.commands, c.ownCondition, c.ownAction⟩
  manual := h.manual
  resolver := h.resolver
  engine := fun x =>
    let e := h.engine x; ⟨e.target, e.confirm, e.silent, e.standalone, e.waiting, e.releasing, e.unanswered⟩

/-- Nor of what the Event Unit holds. -/
theorem asked_events {s : State} (h : EventsSound s) (c : Cell) : EventsSound (asked s c) :=
  ⟨h.held, h.pulses, h.alert, h.masks⟩

/-! ### Witnesses: the step, the invariants, resets -/

theorem witness_StepTakesFrontCommand :
    (queued (.losAssert .east)).pending = .losAssert .east :: [] ∧ idle.pending = [] := by decide

/-- A state that meets every invariant, and whose step moves a LOS pin. -/
theorem witness_StepKeepsInvariants : ∃ s t : State, Sound s ∧ step s = .next t ∧ s.pending ≠ [] :=
  ⟨queued (.losAssert .east), _, sounds _ (by simp), rfl, by simp [queued]⟩

/-- A turn on `asked` takes the request of the Local queue. -/
theorem turn_takes (s : State) (c : Cell) (kind : Request) (h : s.resetN = true)
    (due : (asked s c).nextTurn = some (.tributary, c)) (k : c.request = kind) (data : c.dataGood = true) :
    TurnTakes (asked s c) kind .tributary c :=
  ⟨h, due, k, data⟩

theorem witness_ResetsArePowerOn :
    low.resetN = false ∧ idle.resetN = true ∧
      TurnTakes (asked idle (commandRequest 11)) (.command .restart) .tributary (commandRequest 11) :=
  ⟨by decide, by decide, turn_takes _ _ _ (by decide) (by decide +kernel) (by decide +kernel) (by decide +kernel)⟩

theorem witness_LowResetHoldsEveryBlock :
    low.resetN = false ∧ EventsSound low ∧ low.losPin.get .east = false ∧
      (low.setLosPin ⟨true, false⟩).losPin.get .east = true ∧ (∀ straps, Instr.park ≠ .resetNRelease straps) ∧
      Instr.park ≠ .localFrameStart .frames ∧ ∀ y, Instr.park ≠ .losAssert y ∧ Instr.park ≠ .losRelease y := by
  refine ⟨by decide, ?_, by decide, by decide, ?_, ?_, ?_⟩
  · constructor <;> decide +kernel
  all_goals simp

/-! ### Witnesses: the local frame start -/

theorem nothing_due {s : State} (m : s.monitor = ⟨healthy, healthy⟩) (e : s.engine = ⟨Engine.reset, Engine.reset⟩)
    (c : s.condition = ⟨ConditionSide.reset, ConditionSide.reset⟩) (w : s.instant.swapTurn = false) : FrameStartDue s := by
  refine .inr ⟨fun x => ?_, fun x => ?_, fun x => ?_, fun x => ?_, .inr w⟩ <;> cases x <;>
    simp [m, e, c, Sides.get, healthy, Engine.reset, ConditionSide.reset]

/-- `idle` with a local frame start issued whose frames are still to be built. -/
def issued : State := { idle with instant := ⟨true, true⟩ }

/-- The hypotheses of FrameStartReadsBuffers, LineSlotsSent and SquelchResultsFormed, with nothing left to take and with the
local frame start issued; those of FrameStartSendsFrames, TributaryFrameIsTaken and the first part of FrameStartCountsTimers. -/
theorem witness_FrameStart :
    idle.resetN = true ∧ FrameStartDue idle ∧ issued.resetN = true ∧ FrameStartDue issued ∧ EventsSound idle ∧
      idle.events.pending = false :=
  ⟨by decide, nothing_due rfl rfl rfl rfl, by decide, .inl rfl, idle_events, by decide⟩

/-- A wait whose last local frame start was issued, and which has not been taken. -/
theorem witness_FrameStartCountsTimers_overdue :
    Sound waiting ∧ waiting.resetN = true ∧ waiting.instant.begun = false ∧ (waiting.condition.get .east).wtr = some 0 :=
  ⟨waiting_sound, by decide, by decide, by decide⟩

/-- Two local frame starts in a row. -/
theorem witness_ParityWordHoldsLaneParities : ∃ t, idle.resetN = true ∧ exec (.localFrameStart .frames) idle = .next t :=
  ⟨_, by decide, rfl⟩

/-- `idle` with a notice pending and one send attempt prompted. -/
def noticePending : State := { idle with events := { idle.events with pending := true, attempts := 1 } }

theorem noticePending_events : EventsSound noticePending :=
  ⟨idle_events.held, idle_events.pulses, idle_events.alert, idle_events.masks⟩

theorem witness_FrameStartSendsFrames_pending :
    noticePending.resetN = true ∧ FrameStartDue noticePending ∧ EventsSound noticePending ∧
      noticePending.events.pending = true :=
  ⟨by decide, nothing_due rfl rfl rfl rfl, noticePending_events, by decide⟩

/-- `idle` with two active records: working slot 31 westbound drops tributary 63, protection slot 0 eastbound tributary 0. -/
def mapped : State :=
  { idle with
    tables :=
      { idle.tables with
        slot := { idle.tables.slot with active := idle.tables.slot.active.set 63 ⟨.through, some 63⟩ }
        extra := { idle.tables.extra with active := idle.tables.extra.active.set 0 ⟨.void, some 0⟩ } } }

theorem witness_TributarySlotsSent :
    mapped.resetN = true ∧ mapped.tables.activeDrops.Nodup ∧ (mapped.slotRecord .west (31 : Fin 32)).drop = some 63 ∧
      (mapped.extraRecord .east (0 : Fin 32)).drop = some 0 ∧ FrameStartDue mapped :=
  ⟨by decide, by decide +kernel, by decide +kernel, by decide +kernel, nothing_due rfl rfl rfl rfl⟩

theorem witness_TributarySlotsSent_none (x : Side) (k : Fin 32) :
    (mapped.slotRecord x k).drop ≠ some 1 ∧ (mapped.extraRecord x k).drop ≠ some 1 := by
  have e : ∀ k : Fin 32, (mapped.slotRecord .east k).drop ≠ some 1 ∧ (mapped.extraRecord .east k).drop ≠ some 1 := by
    decide +kernel
  have w : ∀ k : Fin 32, (mapped.slotRecord .west k).drop ≠ some 1 ∧ (mapped.extraRecord .west k).drop ≠ some 1 := by
    decide +kernel
  cases x
  · exact e k
  · exact w k

/-- `idle` with a COMMIT waiting for its swap, which the Table Store has still to take at the last local frame start. -/
def committing : State :=
  { idle with
    instant := ⟨false, true⟩
    tables := { idle.tables with commit := some ⟨.tributary, request 6 0 0 0 [], 4#6⟩ }
    transmit := ⟨⟨[], 0⟩, ⟨[], 0⟩, ⟨[], 1⟩⟩ }

theorem committing_events : EventsSound committing :=
  ⟨idle_events.held, idle_events.pulses, idle_events.alert, idle_events.masks⟩

theorem witness_CommitSwapActivatesStandby :
    committing.resetN = true ∧ EventsSound committing ∧
      committing.tables.commit = some ⟨.tributary, request 6 0 0 0 [], 4#6⟩ ∧ committing.instant.swapTurn = true ∧
      (committing.setInstant ⟨false, false⟩).instant.swapTurn = false :=
  ⟨by decide, committing_events, by rfl, by decide, by decide⟩

/-! ### Witnesses: the lines and the timers -/

theorem witness_LossOfSignalRestores :
    Sound idle ∧ idle.resetN = true ∧ idle.joined = true ∧ idle.identity.position = some 1 ∧ idle.losPin.get .east = false ∧
      (idle.monitor.get .east).flag = false ∧ idle.profile.holdOffTime = 0 ∧ idle.learnedPark = false :=
  ⟨idle_sound, by decide +kernel⟩

/-- `idle` with its East receiver ALIGNED after so many bad words. -/
def afterBad (n : Nat) : State := { idle with receiver := ⟨⟨.aligned, n, some 0#32⟩, idle.receiver.west⟩ }

theorem afterBad_events (n : Nat) : EventsSound (afterBad n) :=
  ⟨idle_events.held, idle_events.pulses, idle_events.alert, idle_events.masks⟩

theorem unaligned_events (a : Machine.Alignment) (los : Bool) : EventsSound (unaligned a los) := by
  cases los <;> cases a <;> exact ⟨by decide +kernel, idle_events.pulses, idle_events.alert, idle_events.masks⟩

theorem dark_line : LineSound (unaligned .search true) .east := by constructor <;> decide +kernel

theorem dark_monitor : MonitorSound (unaligned .search true) .east := by constructor <;> decide

/-- One state for each clause; the counts 2 and 3 are the boundary between a third and a fourth bad word. -/
theorem witness_ReceiverTransitions :
    (EventsSound (unaligned .search false) ∧ (unaligned .search false).losPin.get .east = false ∧
      ((unaligned .search false).receiver.get .east).align = .search) ∧
    (EventsSound (unaligned .presync false) ∧ (unaligned .presync false).losPin.get .east = false ∧
      ((unaligned .presync false).receiver.get .east).align = .presync ∧ (0x1E7B4D93#32 : Word) ≠ 0x1E7B4D92#32) ∧
    (EventsSound (afterBad 2) ∧ (afterBad 2).losPin.get .east = false ∧ ((afterBad 2).receiver.get .east).align = .aligned ∧
      ((afterBad 2).receiver.get .east).badWords < 3) ∧
    (EventsSound (unaligned .search true) ∧ (unaligned .search true).losPin.get .east = true ∧
      LineSound (unaligned .search true) .east ∧ MonitorSound (unaligned .search true) .east) ∧ idle.resetN = true :=
  ⟨⟨unaligned_events _ _, by decide⟩, ⟨unaligned_events _ _, by decide⟩, ⟨afterBad_events _, by decide⟩,
    ⟨unaligned_events _ _, by decide, dark_line, dark_monitor⟩, by decide⟩

/-- A LOS pin that goes high, and the fourth bad word. -/
theorem witness_LostSignalIsTaken :
    (idle.resetN = true ∧ EventsSound idle ∧ idle.losPin.get .east = false ∧ MonitorSound idle .east ∧ LineSound idle .east) ∧
    ((afterBad 3).resetN = true ∧ EventsSound (afterBad 3) ∧ (afterBad 3).losPin.get .east = false ∧
      MonitorSound (afterBad 3) .east ∧ ((afterBad 3).receiver.get .east).align = .aligned ∧ (0#32 : Word) ≠ 0x1E7B4D92#32 ∧
      ((afterBad 3).receiver.get .east).badWords = 3) := by
  refine ⟨⟨by decide, idle_events, by decide, idle_reception.monitor _, idle_reception.line _⟩, by decide, afterBad_events _,
    by decide, ?_, by decide⟩
  constructor <;> decide

/-- A part whose East receiver checks its second word, with the given settle mask time. -/
def checking (settleTime : Nat) : State :=
  { unaligned .presync false with profile := { idle.profile with settleTime := settleTime } }

/-- A settle mask time of 0, and one of 1. -/
theorem witness_EntryToAligned (n : Nat) (h : n ∈ [0, 1]) :
    (checking n).profile.settleTime = n ∧ (checking n).resetN = true ∧ EventsSound (checking n) ∧
      (checking n).losPin.get .east = false ∧ ((checking n).receiver.get .east).align = .presync ∧
      MonitorSound (checking n) .east ∧ ConditionSound (checking n) .east := by
  simp only [List.mem_cons, List.not_mem_nil, or_false] at h
  rcases h with rfl | rfl <;> refine ⟨by rfl, by rfl, ?_, by rfl, by rfl, ?_, ?_⟩ <;> constructor <;> decide +kernel

/-- The hypotheses of the five statements about an arriving frame: ArrivingFrameIsStored, ArrivingFrameIsMonitored,
ArrivingVectorIsTested, ArrivingVectorIsMerged and LineCellIsRouted. -/
theorem witness_ArrivingFrame :
    idle.resetN = true ∧ EventsSound idle ∧ idle.losPin.get .east = false ∧ (idle.receiver.get .east).align = .aligned ∧
      LineSound idle .east ∧ MonitorSound idle .east ∧ (idle.joined = true → idle.identity.position = some 1) :=
  ⟨by decide, idle_events, by decide, by decide, idle_reception.line _, idle_reception.monitor _, by decide⟩

theorem holding_events (n : Nat) : EventsSound (holding n) :=
  have h := unaligned_events .search false
  ⟨h.held, h.pulses, h.alert, h.masks⟩

/-- The last local frame start of the timer issued, and one still to come. -/
theorem witness_HoldOffExpiryMakesCut (n : Nat) (h : n ∈ [0, 1]) :
    (holding n).resetN = true ∧ EventsSound (holding n) ∧ MonitorSound (holding n) .east ∧ ConditionSound (holding n) .east ∧
      ((holding n).monitor.get .east).holdOff = .holding ∧ ((holding n).monitor.get .east).holdOffTimer = some n := by
  simp only [List.mem_cons, List.not_mem_nil, or_false] at h
  rcases h with rfl | rfl <;> refine ⟨by decide, holding_events _, ?_, ?_, by decide, by decide⟩ <;> constructor <;> decide

/-- `idle` with its East settle mask running, as many local frame starts still to count. -/
def masked (left : Nat) : State := { idle with monitor := ⟨{ healthy with settle := some left }, healthy⟩ }

theorem witness_SettleMaskExpiryEvaluates (n : Nat) (h : n ∈ [0, 1]) :
    (masked n).resetN = true ∧ EventsSound (masked n) ∧ MonitorSound (masked n) .east ∧
      ((masked n).monitor.get .east).settle = some n := by
  simp only [List.mem_cons, List.not_mem_nil, or_false] at h
  rcases h with rfl | rfl <;> refine ⟨by decide, ?_, ?_, by decide⟩ <;> constructor <;> decide +kernel

/-- Both clauses: the East wait is over, and on West none runs. -/
theorem witness_WtrExpiryEndsHold :
    waiting.resetN = true ∧ EventsSound waiting ∧ RestorationSound waiting ∧ (waiting.condition.get .east).wtr = some 0 ∧
      (waiting.condition.get .west).wtr ≠ some 0 :=
  ⟨by decide, waiting_events, waiting_restoration, by decide, by decide⟩

theorem witness_ConfirmExpiryMovesEngine :
    (bridging.resetN = true ∧ EventsSound bridging ∧ RestorationSound bridging ∧
      (bridging.engine.get .east).confirm = some 0 ∧ (bridging.engine.get .west).confirm ≠ some 0) ∧
    (unlooping.resetN = true ∧ EventsSound unlooping ∧ RestorationSound unlooping ∧
      (unlooping.engine.get .east).confirm = some 0) :=
  ⟨⟨by decide, bridging_events, bridging_restoration, by decide, by decide⟩,
    by decide, unlooping_events, unlooping_restoration, by decide⟩

theorem witness_SendAttemptWritesNotice :
    noticePending.resetN = true ∧ EventsSound noticePending ∧ noticePending.events.pending = true ∧
      1 ≤ noticePending.events.attempts :=
  ⟨by decide, noticePending_events, by decide, by decide⟩

/-! ### Witnesses: the Agent -/

theorem witness_TurnTakesFirstTakable :
    ((asked idle (request 1 0 1 0 [])).nextTurn = some (.tributary, request 1 0 1 0 []) ∧
      (request 1 0 1 0 []).request ≠ .write) ∧
    ∀ r, ¬(idle.requests.get r ≠ [] ∧ (idle.transmit.get r).occupancy < 8) :=
  ⟨⟨by decide +kernel, by decide +kernel⟩, fun r => by cases r <;> decide⟩

/-- A request with the data check wrong. -/
def spoilt : Cell := { request 1 0 1 0 [] with dataCheck := 0#16 }

/-- Requests at the boundaries of each test of R159. -/
theorem witness_RequestTestsAnswer :
    (∀ c ∈ [spoilt, request 0 0 0 0 [], request 9 0 0 0 [], commandRequest 0, commandRequest 12, request 1 13 1 0 [],
      request 5 12 0 0 [], request 4 12 9 0 []], (asked idle c).nextTurn = some (.tributary, c)) ∧
    spoilt.dataCheck ≠ checkOf spoilt.dataBytes ∧
    (∀ c ∈ [request 0 0 0 0 [], request 9 0 0 0 []], c.dataGood = true ∧ c.request = .unknownOperation) ∧
    (∀ c ∈ [commandRequest 0, commandRequest 12], c.dataGood = true ∧ c.request = .unknownCommand) ∧
    ((request 1 13 1 0 []).request = .read ∧ 12 < (request 1 13 1 0 []).table.toNat) ∧
    ((request 5 12 0 0 []).request = .readClear ∧ (request 5 12 0 0 []).count.toNat = 0) ∧
    ((request 4 12 9 0 []).request = .clear ∧ 8 < (request 4 12 9 0 []).count.toNat) ∧ idle.resetN = true := by
  decide +kernel

theorem witness_RequestTestsAnswer_events : EventsSound (asked idle spoilt) := asked_events idle_events _

/-- A READ that ends at the last word of its table, one that goes one word beyond it, and a POLL. -/
theorem witness_ReadAndPollAnswer :
    (∀ c ∈ [request 1 10 8 8 [], request 1 10 8 9 []],
      TurnTakes (asked idle c) .read .tributary c ∧ c.table.toNat ≤ 12 ∧ 1 ≤ c.count.toNat ∧ c.count.toNat ≤ 8) ∧
    EventsSound (asked idle (request 1 10 8 8 [])) ∧
    TurnTakes (asked idle (request 8 0 0 0 [])) .poll .tributary (request 8 0 0 0 []) := by
  refine ⟨fun c h => ?_, asked_events idle_events _, ?_⟩
  · have k : (asked idle c).nextTurn = some (.tributary, c) ∧ c.request = .read ∧ c.dataGood = true ∧ c.table.toNat ≤ 12 ∧
        1 ≤ c.count.toNat ∧ c.count.toNat ≤ 8 := by
      revert c; decide +kernel
    exact ⟨⟨by rfl, k.1, k.2.1, k.2.2.1⟩, k.2.2.2⟩
  · exact ⟨by rfl, by decide +kernel, by decide +kernel, by decide +kernel⟩

/-- A busy state: a side on HOLD, its engine LOOPED, a span in R. -/
theorem witness_WordsShowTheState : Sound waiting := waiting_sound

/-- A SET answered DONE, one answered REFUSED, and one answered RETRY. -/
theorem witness_WriteSetClearAnswer :
    (∀ s ∈ [asked idle (request 3 12 1 4 [1#32]), asked idle (request 3 12 1 1 [1#32]), asked committing (request 3 3 1 63 [0#32])],
      ∃ c, s.requests.tributary = [c] ∧ TurnTakes s .set .tributary c ∧ c.table.toNat ≤ 12 ∧ 1 ≤ c.count.toNat ∧
        c.count.toNat ≤ 8) ∧
    writeStatus idle 12 4 [1#32] = .done ∧ writeStatus idle 12 1 [1#32] = .refused ∧
    writeStatus committing 3 63 [0#32] = .retry := by
  refine ⟨fun s h => ?_, by decide +kernel⟩
  simp only [List.mem_cons, List.not_mem_nil, or_false] at h
  rcases h with rfl | rfl | rfl <;>
    exact ⟨_, rfl, ⟨by rfl, by decide +kernel, by decide +kernel, by decide +kernel⟩, by decide +kernel⟩

/-- At least one word; the tables at the boundaries of their ranges. -/
theorem witness_WriteStatusByTable :
    writeStatus alone 3 63 [0#32] = .done ∧ writeStatus alone 3 64 [0#32] = .range ∧
    writeStatus alone 7 0 [0x80003E3D#32] = .done ∧ writeStatus alone 7 0 [0x80003E3E#32] = .range ∧
    writeStatus alone 0 1 [62#32] = .done ∧ writeStatus alone 0 1 [63#32] = .range ∧ writeStatus idle 0 1 [62#32] = .refused ∧
    writeStatus alone 1 6 [0x1F000003#32] = .done ∧ writeStatus alone 1 6 [0x1F000004#32] = .range ∧
    writeStatus alone 2 0 [0x00200000#32] = .done ∧ writeStatus alone 2 0 [0x00210000#32] = .range ∧
    writeStatus alone 12 5 [0#32] = .done ∧ writeStatus alone 12 7 [0#32] = .range := by
  decide +kernel

theorem witness_StoredWords :
    writeStatus alone 3 63 [0xA000003F#32] = .done ∧ writeStatus alone 5 0 [0x40000000#32] = .done ∧
    writeStatus alone 7 63 [0xC000003E#32] = .done ∧ writeStatus alone 0 1 [62#32] = .done ∧
    writeStatus alone 1 0 [0#32, 0#32, 0#32, 0#32, 0xFFFFFFFF#32, 0#32, 0xFFFFFF01#32] = .done ∧
    writeStatus alone 2 32 [63#32] = .done ∧ writeStatus alone 12 2 [0xFFFFFFFF#32, 0xFFFFFFFF#32, 0#32, 0#32] = .done := by
  decide +kernel

theorem witness_RecordWordsRoundTrip :
    slotOfWord 0xA000003F#32 = some ⟨.add 0, some 63⟩ ∧ circuitOfWord 0xC000003E#32 = some (some ⟨0, 62, true⟩) ∧
    circuitOfWord 0x7FFFFFFF#32 = some none := by
  decide +kernel

/-- One request for each clause, at the boundary indices 17, 18, 1, 6 and 7. -/
theorem witness_ReadClearClears :
    EventsSound (asked idle (request 5 11 1 17 [])) ∧
    ∀ c ∈ [request 5 11 1 17 [], request 5 11 1 18 [], request 5 12 1 1 [], request 5 12 1 7 [], request 5 12 1 6 [],
      request 5 10 1 0 []],
      TurnTakes (asked idle c) .readClear .tributary c ∧ c.table.toNat ≤ 12 ∧ 1 ≤ c.count.toNat ∧ c.count.toNat ≤ 8 := by
  refine ⟨asked_events idle_events _, fun c h => ?_⟩
  have k : (asked idle c).nextTurn = some (.tributary, c) ∧ c.request = .readClear ∧ c.dataGood = true ∧ c.table.toNat ≤ 12 ∧
      1 ≤ c.count.toNat ∧ c.count.toNat ≤ 8 := by
    revert c; decide +kernel
  exact ⟨⟨by rfl, k.1, k.2.1, k.2.2.1⟩, k.2.2.2⟩

/-- `idle` whose standby banks name tributary 5 twice. -/
def doubled : State :=
  { idle with
    tables :=
      { idle.tables with
        slot := { idle.tables.slot with standby := idle.tables.slot.standby.set 0 ⟨.void, some 5⟩ }
        extra := { idle.tables.extra with standby := idle.tables.extra.standby.set 63 ⟨.void, some 5⟩ } } }

theorem witness_CommitRequestAnswered :
    (∀ s ∈ [committing, doubled, idle],
      TurnTakes (asked s (request 6 0 0 0 [])) .commit .tributary (request 6 0 0 0 []) ∧ EventsSound s) ∧
    committing.tables.commit ≠ none ∧ (doubled.tables.commit = none ∧ 1 < doubled.tables.standbyDrops.count 5) ∧
    (idle.tables.commit = none ∧ ∀ u, idle.tables.standbyDrops.count u ≤ 1) := by
  refine ⟨fun s h => ?_, by decide, ⟨by decide, by decide +kernel⟩, by decide, by decide +kernel⟩
  simp only [List.mem_cons, List.not_mem_nil, or_false] at h
  rcases h with rfl | rfl | rfl <;>
    exact ⟨⟨by rfl, by decide +kernel, by decide +kernel, by decide +kernel⟩,
      idle_events.held, idle_events.pulses, idle_events.alert, idle_events.masks⟩

/-- The hypotheses of UnacceptedCommandIsRefused: a JOIN at a JOINED part and a PARK at a STANDALONE one. -/
theorem witness_UnacceptedCommandIsRefused :
    (EventsSound (asked idle (commandRequest 9)) ∧
      TurnTakes (asked idle (commandRequest 9)) (.command .join) .tributary (commandRequest 9) ∧
      ¬Accepted (asked idle (commandRequest 9)) .join) ∧
    (EventsSound (asked alone (commandRequest 5)) ∧
      TurnTakes (asked alone (commandRequest 5)) (.command .park) .tributary (commandRequest 5) ∧
      ¬Accepted (asked alone (commandRequest 5)) .park) :=
  ⟨⟨asked_events idle_events _, ⟨by rfl, by decide +kernel, by decide +kernel, by decide +kernel⟩,
      fun h => absurd (JoinAccepted.mode h) (by decide)⟩,
    asked_events alone_events _, ⟨by rfl, by decide +kernel, by decide +kernel, by decide +kernel⟩,
      fun h => absurd (show (asked alone (commandRequest 5)).joined = true from h) (by decide)⟩

/-! ### Witnesses: commands -/

theorem force_accepted (c : Cell) : Accepted (asked idle c) .forceEast := by
  have e : ∀ p : Fin 32, (idle.entry p .east).learned = true → (idle.entry p .east).condition ≠ .park := by decide +kernel
  have w : ∀ p : Fin 32, (idle.entry p .west).learned = true → (idle.entry p .west).condition ≠ .park := by decide +kernel
  exact ⟨by rfl, fun p x => by cases x; exacts [e p, w p]⟩

theorem manual_accepted (c : Cell) : Accepted (asked idle c) .manualWest := by
  have e : ∀ p : Fin 32, (idle.entry p .east).learned = true → (idle.entry p .east).condition.code < Condition.fade.code := by
    decide +kernel
  have w : ∀ p : Fin 32, (idle.entry p .west).learned = true → (idle.entry p .west).condition.code < Condition.fade.code := by
    decide +kernel
  exact ⟨by rfl, fun p x => by cases x; exacts [e p, w p]⟩

theorem witness_ForceAndManualTakeEffect :
    (RestorationSound (asked idle (commandRequest 1)) ∧ EventsSound (asked idle (commandRequest 1)) ∧
      TurnTakes (asked idle (commandRequest 1)) (.command .forceEast) .tributary (commandRequest 1) ∧
      Accepted (asked idle (commandRequest 1)) .forceEast ∧ (asked idle (commandRequest 1)).identity.position = some 1) ∧
    (RestorationSound (asked idle (commandRequest 4)) ∧ EventsSound (asked idle (commandRequest 4)) ∧
      TurnTakes (asked idle (commandRequest 4)) (.command .manualWest) .tributary (commandRequest 4) ∧
      Accepted (asked idle (commandRequest 4)) .manualWest ∧ (asked idle (commandRequest 4)).identity.position = some 1) :=
  ⟨⟨asked_restoration idle_restoration _, asked_events idle_events _,
      ⟨by rfl, by decide +kernel, by decide +kernel, by decide +kernel⟩, force_accepted _, by rfl⟩,
    asked_restoration idle_restoration _, asked_events idle_events _,
      ⟨by rfl, by decide +kernel, by decide +kernel, by decide +kernel⟩, manual_accepted _, by rfl⟩

/-- The hypotheses of ParkTakesEffect for PARK and for CLEAR-PARK. -/
theorem witness_ParkTakesEffect :
    (RestorationSound (asked idle (commandRequest 5)) ∧ EventsSound (asked idle (commandRequest 5)) ∧
      TurnTakes (asked idle (commandRequest 5)) (.command .park) .tributary (commandRequest 5) ∧
      (asked idle (commandRequest 5)).joined = true) ∧
    (RestorationSound (asked idle (commandRequest 8)) ∧ EventsSound (asked idle (commandRequest 8)) ∧
      TurnTakes (asked idle (commandRequest 8)) (.command .clearPark) .tributary (commandRequest 8) ∧
      (asked idle (commandRequest 8)).joined = true) :=
  ⟨⟨asked_restoration idle_restoration _, asked_events idle_events _,
      ⟨by rfl, by decide +kernel, by decide +kernel, by decide +kernel⟩, by rfl⟩,
    asked_restoration idle_restoration _, asked_events idle_events _,
      ⟨by rfl, by decide +kernel, by decide +kernel, by decide +kernel⟩, by rfl⟩

/-- CLEAR-EAST of a side on HOLD, and CLEAR-WEST of one that is not. -/
theorem witness_ClearTakesEffect :
    (RestorationSound (asked waiting (commandRequest 6)) ∧ EventsSound (asked waiting (commandRequest 6)) ∧
      TurnTakes (asked waiting (commandRequest 6)) (.command .clearEast) .tributary (commandRequest 6) ∧
      (asked waiting (commandRequest 6)).joined = true) ∧
    (RestorationSound (asked waiting (commandRequest 7)) ∧ EventsSound (asked waiting (commandRequest 7)) ∧
      TurnTakes (asked waiting (commandRequest 7)) (.command .clearWest) .tributary (commandRequest 7) ∧
      (asked waiting (commandRequest 7)).joined = true) :=
  ⟨⟨asked_restoration waiting_restoration _, asked_events waiting_events _,
      ⟨by rfl, by decide +kernel, by decide +kernel, by decide +kernel⟩, by rfl⟩,
    asked_restoration waiting_restoration _, asked_events waiting_events _,
      ⟨by rfl, by decide +kernel, by decide +kernel, by decide +kernel⟩, by rfl⟩

theorem join_accepted (c : Cell) : JoinAccepted (asked alone c) where
  mode := by rfl
  size := by
    have h : 3 ≤ ring.n ∧ ring.n ≤ 32 := by decide
    exact h
  filled := by
    have h : ∀ p : Fin 32, p.val < ring.n → ring.ids[p] ≠ none := by decide +kernel
    exact h
  distinct := by
    have h : ∀ p q : Fin 32, p.val < ring.n → q.val < ring.n → ring.ids[p] = ring.ids[q] → p = q := by decide +kernel
    exact h
  named := by
    have h : ring.ids[(1 : Fin 32)] = some 4 := by decide +kernel
    exact ⟨1, show 1 < 3 by decide, 4, h, by rfl⟩

theorem witness_JoinTakesEffect :
    RestorationSound (asked alone (commandRequest 9)) ∧ EventsSound (asked alone (commandRequest 9)) ∧
      (∀ x, MonitorSound (asked alone (commandRequest 9)) x) ∧
      TurnTakes (asked alone (commandRequest 9)) (.command .join) .tributary (commandRequest 9) ∧
      JoinAccepted (asked alone (commandRequest 9)) := by
  refine ⟨asked_restoration alone_restoration _, asked_events alone_events _, fun x => ?_,
    ⟨by rfl, by decide +kernel, by decide +kernel, by decide +kernel⟩, join_accepted _⟩
  cases x <;> constructor <;> decide

theorem witness_LeaveTakesEffect :
    RestorationSound (asked idle (commandRequest 10)) ∧ EventsSound (asked idle (commandRequest 10)) ∧
      TurnTakes (asked idle (commandRequest 10)) (.command .leave) .tributary (commandRequest 10) ∧
      Accepted (asked idle (commandRequest 10)) .leave :=
  ⟨asked_restoration idle_restoration _, asked_events idle_events _,
    ⟨by rfl, by decide +kernel, by decide +kernel, by decide +kernel⟩, by rfl, fun x => by cases x <;> rfl⟩

/-! ### Witnesses: every event, and the Resolver -/

/-- The hypotheses of EditionsCountContentChanges, EventsAreLatchedAndNotified and OnlyTheseEventsChange: a COMMIT_SWAP. -/
theorem witness_EveryEvent :
    ∃ t, exec .commitSwap committing = .next t ∧ committing.resetN = true ∧ EventsSound committing ∧
      RestorationSound committing ∧ (∀ y f o, Instr.commitSwap ≠ .alignedFrameArrival y f o) ∧ ¬Instr.commitSwap.resets ∧ Instr.commitSwap ≠ .readClear ∧
      Instr.commitSwap ≠ .noticeSendAttempt ∧ (∀ part, Instr.commitSwap = .localFrameStart part → FrameStartDue committing) ∧
      EnablesKept committing.events t.events := by
  refine ⟨_, rfl, by decide, committing_events, committed_restoration idle_restoration _ _ _, ?_, ?_, ?_, ?_, ?_, ?_⟩
  · simp
  · simp [Instr.resets]
  · simp
  · simp
  · simp
  · unfold EnablesKept; decide +kernel

/-- The same of a local frame start. -/
theorem witness_EveryEvent_frameStart :
    ∃ t, exec (.localFrameStart .frames) idle = .next t ∧ idle.resetN = true ∧ EventsSound idle ∧ RestorationSound idle ∧
      (∀ part, Instr.localFrameStart .frames = .localFrameStart part → FrameStartDue idle) ∧
      EnablesKept idle.events t.events :=
  ⟨_, rfl, by decide, idle_events, idle_restoration, fun _ _ => nothing_due rfl rfl rfl rfl, by unfold EnablesKept; decide +kernel⟩

/-- A cut at a JOINED part whose neighbour has not answered: the East engine bridges. -/
theorem witness_EnginesFollowTheTable :
    ∃ t, RestorationSound idle ∧ exec (.losAssert .east) idle = .next t ∧ ¬(Instr.losAssert .east).resets ∧
      (∀ y, Instr.losAssert .east ≠ .confirmTimerExpiry y) ∧ (∀ part, Instr.losAssert .east ≠ .localFrameStart part) ∧
      (∀ y w, Instr.losAssert .east = .presyncWordCheck y w → idle.profile.settleTime ≠ 0) ∧
      (∀ y f o, Instr.losAssert .east = .alignedFrameArrival y f o →
        (t.condition.get y).detected = (idle.condition.get y).detected) ∧
      t.engine.east = ⟨.bridged, some 5000, false⟩ := by
  refine ⟨_, idle_restoration, rfl, ?_, ?_, ?_, ?_, ?_, by decide +kernel⟩
  · simp [Instr.resets]
  all_goals simp

/-- A STANDALONE part, and a JOINED one with its position. -/
theorem witness_RoleAndTargetsFollow :
    (RestorationSound alone ∧ alone.joined = false) ∧
    (RestorationSound eastLooped ∧ eastLooped.joined = true ∧ eastLooped.identity.position = some 1) :=
  ⟨⟨alone_restoration, by decide⟩, eastLooped_restoration, by decide, by decide⟩

theorem witness_OwnSegmentIsTheRunRoundTheNode :
    RestorationSound eastLooped ∧ eastLooped.joined = true ∧ eastLooped.identity.position = some 1 ∧
      (2 : Fin 32).val < eastLooped.ringMap.n ∧ eastLooped.ringMap.ids[(2 : Fin 32)] = some 27 :=
  ⟨eastLooped_restoration, by decide, by decide, by decide, by decide +kernel⟩

/-- The two ends of span 1: one segment holds both, and span 1 is in R. -/
theorem witness_AgreeingNodesRestoreAlike :
    RestorationSound eastLooped ∧ RestorationSound westLooped ∧ eastLooped.joined = true ∧ westLooped.joined = true ∧
      eastLooped.ringMap = westLooped.ringMap ∧
      (∀ (p : Fin 32) (x : Side), p.val < eastLooped.ringMap.n →
        let a := eastLooped.entry p x
        let b := westLooped.entry p x
        (a.learned = true ∧ b.learned = true ∧ a.condition = b.condition ∧ a.action = b.action) ∨
        (a.learned = false ∧ b.condition = .idle ∧ b.action = .pass) ∨
        (b.learned = false ∧ a.condition = .idle ∧ a.action = .pass)) ∧
      eastLooped.identity.position = some 1 ∧ westLooped.identity.position = some 2 ∧
      westLooped.resolver.segment = some (2, 1) ∧ (1 + 3 - 2) % 3 ≤ (1 + 3 - 2) % 3 ∧
      eastLooped.resolver.restored.getLsbD 1 = true := by
  refine ⟨eastLooped_restoration, (restorations westLooped (by simp)).1, by decide, by decide, by rfl, fun p x => ?_, by decide⟩
  cases x <;> revert p <;> decide +kernel

/-- d below the target, and above it, at the ends of their ranges. -/
theorem witness_EstimatorFollowsTheTarget :
    (33554431 ≤ 33554432 ∧ 32 ≤ 32 ∧ 65535 ≤ 65535 ∧ 65535 ≠ 0 ∧ 33554431 < 32 * 1048576) ∧
      (33554432 ≤ 33554432 ∧ 1 ≠ 0 ∧ 31 * 1048576 < 33554432) := by decide

/-- The last d of each half of the code. -/
theorem witness_RateCodesReportDensity : 4095 < 4096 ∧ 4096 ≤ 4096 ∧ 33554432 ≤ 33554432 := by decide

/-! ### WellFormed -/

/-- No operand of a command has a range narrower than its type, so WellFormed refuses none. -/
theorem test_wellFormed_accepts (c : Instr) : c.wellFormed = true := by cases c <;> rfl

/-- The table gives no row any bits, so no word spells a command. -/
theorem test_decode_none : decodeTableWord 0 0 = none := by decide

/-! ### Values of the manual -/

/-- The published check value of the CRC of R178 (polynomial 0x1021, start 0xFFFF, no inversion) over "123456789". -/
theorem test_check_of_digits :
    checkOf [0x31#8, 0x32#8, 0x33#8, 0x34#8, 0x35#8, 0x36#8, 0x37#8, 0x38#8, 0x39#8] = 0x29B1#16 := by decide +kernel

/-- 03 Worked digest. -/
theorem test_digest_of_the_manuals_ring :
    (RingMap.digest ⟨8, 0x2A10#16, Vector.ofFn fun i : Fin 32 =>
      [some 11, some 4, some 27, some 9, some 30, some 2, some 17, some 5].getD i.val none⟩) = 0x81C9#16 := by decide +kernel

/-- 02 Rounding examples, and Worked case: a burst on a clean span. -/
theorem test_estimator_worked_values :
    estimatorStep 1 32768 = 1 ∧ estimatorStep (-3) 32768 = -2 ∧ estimatorStep (-640) 40 = -1 ∧ estimate 5 0 0 = 5 ∧
      estimate 0 1 3000 = 48000 ∧ estimate 48000 0 3000 = 45803 ∧ estimate 45803 0 3000 = 43706 := by decide +kernel

/-- 02 The rate code, its table of examples. -/
theorem test_rate_code_worked_values :
    rateCode 2047 = 0x07FF#16 ∧ rateCode 43706 = 0x4557#16 ∧ rateCode 65535 = 0x5000#16 ∧ rateCode 33554431 = 0xE000#16 ∧
      rateCode 33554432 = 0xE000#16 ∧ rateValue 0x4557#16 = 43704 := by decide +kernel

/-- 02 Worked case: mis-ordered thresholds. -/
theorem test_quality_with_misordered_thresholds :
    evaluateQuality 0x0419#16 0x0800#16 0x0200#16 .good 1024 = .good ∧
    evaluateQuality 0x0419#16 0x0800#16 0x0200#16 .good 2047 = .excessive ∧
    evaluateQuality 0x0419#16 0x0800#16 0x0200#16 .excessive 1049 = .excessive ∧
    evaluateQuality 0x0419#16 0x0800#16 0x0200#16 .excessive 1048 = .good := by decide +kernel

/-- 04 Worked example: one vector merged at position 5. -/
theorem test_merge_worked_entries :
    adopt .east ⟨.idle, .pass, 15, some (.line .west)⟩ ⟨.hold, .pass, 2⟩ = ⟨.hold, .pass, 2, some (.line .east)⟩ ∧
    adopt .east ⟨.cut, .looped, 14, some (.line .west)⟩ ⟨.cut, .bridged, 12⟩ = ⟨.cut, .looped, 14, some (.line .west)⟩ ∧
    adopt .east ⟨.cut, .bridged, 9, some (.line .west)⟩ ⟨.idle, .pass, 9⟩ = ⟨.cut, .bridged, 9, some (.line .west)⟩ ∧
    catchUp (.idle, .pass) ⟨.idle, .pass, 6⟩ ⟨.cut, .looped, 6⟩ = ⟨.idle, .pass, 7⟩ ∧
    catchUp (.idle, .pass) ⟨.idle, .pass, 3⟩ ⟨.idle, .pass, 3⟩ = ⟨.idle, .pass, 3⟩ := by decide +kernel

/-! ### One step of each command -/

/-- The state after a command. -/
def after (c : Instr) (s : State) : State :=
  match exec c s with
  | .next t => t
  | _ => s

/-- The status of the last cell in the tributary queue, and its data words. -/
def answer (s : State) : Option (Byte × List Word) :=
  s.transmit.tributary.cells.getLast?.map fun c => (c.status, c.data.toList)

theorem test_resetNAssert_keeps_node_id : (after .resetNAssert idle).identity = ⟨4#6, 4#6, false, none⟩ := by decide +kernel

theorem test_resetNRelease_samples_straps : (after (.resetNRelease 9#6) low).identity = ⟨9#6, 9#6, false, none⟩ := by
  decide +kernel

/-- 01 Worked sequence: centering and a repeat slip, its last read. -/
theorem test_localFrameStart_repeat_slip :
    let t := after (.localFrameStart .frames) { idle with
      buffer := ⟨⟨.running, [], some LineSlots.void⟩, ⟨.centering, [LineSlots.void, LineSlots.void], none⟩⟩ }
    t.count (.slips .east) = 1#32 ∧ t.count (.slips .west) = 0#32 ∧ t.buffer.west.mode = .running ∧
      t.buffer.west.frames.length = 1 ∧ t.frameCount = 1#32 := by
  decide +kernel

/-- R2: the wait that ends at a local frame start has ended when the next one is issued. -/
theorem test_localFrameStart_follows_the_expiry :
    let t := after (.localFrameStart .issue) waiting
    t.condition.east = ⟨.idle, none, .none, .idle⟩ ∧ t.frameCount = 1#32 ∧ t.instant = ⟨true, true⟩ := by
  decide +kernel

/-- 09 Worked sequence: a cut reported to the node controller, its first row (bits 0, 1, 18, 20, 21). -/
theorem test_losAssert_reports_the_cut :
    let t := after (.losAssert .east) { idle with
      events := { idle.events with notify := 0x00240041#32, alert := 0x00000001#32 } }
    t.events.latches = 0x00340003#32 ∧ t.alertN = false ∧ t.transmit.tributary.cells.map (·.word 0) = [0x00340003#32] ∧
      t.count (.alignmentLosses .east) = 1#32 := by
  decide +kernel

/-- The same sequence: LOS_E goes low after the READ-CLEAR. -/
theorem test_losRelease_latches_the_fall :
    (after (.losRelease .east) (unaligned .search true)).events.latches = 0x00000001#32 := by decide +kernel

theorem test_alignmentWordFound_enters_presync :
    (after (.alignmentWordFound .east) (unaligned .search false)).receiver.east.align = .presync := by decide +kernel

theorem test_presyncWordCheck_enters_aligned :
    let t := after (.presyncWordCheck .east 0x1E7B4D92#32) (unaligned .presync false)
    t.receiver.east.align = .aligned ∧ t.buffer.east.mode = .centering ∧ t.monitor.east.settle = some 10000 := by
  decide +kernel

theorem test_alignedWordCheck_third_bad_word :
    (after (.alignedWordCheck .east 0x1E7B4D93#32) (afterBad 2)).receiver.east = ⟨.aligned, 3, some 0#32⟩ := by decide +kernel

set_option maxRecDepth 20000 in
/-- 04: a vector of a STANDALONE sender whose ring ID is not that of the ring is FOREIGN, and makes the side MISWIRED. -/
theorem test_alignedFrameArrival_foreign :
    let t := after (.alignedFrameArrival .east (frameWith resetVector .absent) .mergeFirst) idle
    t.monitor.east.defects.miswired = true ∧ t.condition.east.detected = .cut ∧ t.count (.vectorsDiscarded .east) = 1#32 := by
  decide +kernel

set_option maxRecDepth 20000 in
/-- R151: a cell in transit whose hop limit becomes 0 is a transit drop. -/
theorem test_alignedFrameArrival_hop_limit :
    let c := Cell.sealed { request 1 0 1 0 [] with destination := 27#8 }
    (after (.alignedFrameArrival .east (frameWith resetVector (.carrying c)) .mergeFirst) idle).count .transitDrops = 1#32 := by
  decide +kernel

theorem test_holdOffExpiry_makes_cut : (after (.holdOffExpiry .east) (holding 0)).condition.east.detected = .cut := by
  decide +kernel

/-- R2: not before the last local frame start of its count. -/
theorem test_holdOffExpiry_not_early : (after (.holdOffExpiry .east) (holding 1)).monitor.east.holdOff = .holding := by
  decide +kernel

/-- 02 Worked case: the default weight crossing T_on: d of 2,047 is FADING. -/
theorem test_settleMaskExpiry_evaluates :
    (after (.settleMaskExpiry .east) { masked 0 with
      monitor := ⟨{ healthy with settle := some 0, density := 2047 }, healthy⟩ }).monitor.east.quality = .fading := by
  decide +kernel

theorem test_wtrExpiry_ends_hold : (after (.wtrExpiry .east) waiting).condition.east = ⟨.idle, none, .none, .idle⟩ := by
  decide +kernel

theorem test_confirmTimerExpiry_loops : (after (.confirmTimerExpiry .east) bridging).engine.east = ⟨.looped, none, true⟩ := by
  decide +kernel

theorem test_confirmTimerExpiry_releases :
    (after (.confirmTimerExpiry .east) unlooping).engine.east = ⟨.idle, none, false⟩ := by decide +kernel

/-- R152: a request for 63 joins the Local queue. -/
theorem test_tributaryFrameArrival_claims_alias :
    (after (.tributaryFrameArrival ⟨Config.alignmentWord, .carrying (commandRequest 9), tributaryVoid⟩) idle).requests.tributary
      = [commandRequest 9] := by
  decide +kernel

/-- R49 and 11: Identity word 1 holds the node ID in use. -/
theorem test_read_node_id :
    answer (after .read (asked idle (request 1 0 1 1 []))) = some (0#8, [4#32, 0#32, 0#32, 0#32, 0#32, 0#32, 0#32, 0#32]) := by
  decide +kernel

/-- R162: numeric Profile fields go to the nearer limit: WTR 0 becomes 1, confirm 501 becomes 500. -/
theorem test_write_profile_limits :
    answer (after .write (asked idle (request 2 1 1 5 [0x000001F5#32]))) =
      some (0#8, [0x000101F4#32, 0#32, 0#32, 0#32, 0#32, 0#32, 0#32, 0#32]) := by
  decide +kernel

/-- R48: the node ID in use is not written while JOINED. -/
theorem test_write_node_id_joined :
    (answer (after .write (asked idle (request 2 0 1 1 [12#32])))).map (·.1) = some 2#8 := by decide +kernel

theorem test_set_adds_bits :
    (after .set (asked idle (request 3 12 1 4 [0x80000001#32]))).events.notify = 0x00000001#32 := by decide +kernel

theorem test_clear_removes_bits :
    (after .clear (asked idle (request 4 12 1 2 [0x00000001#32]))).events.rise = 0x7FFFFFFE#32 := by decide +kernel

theorem test_readClear_latches :
    let t := after .readClear (asked { idle with events := { idle.events with latches := 3#32 } } (request 5 12 1 1 []))
    t.events.latches = 0#32 ∧ (answer t).map (·.2.head?) = some (some 3#32) := by
  decide +kernel

/-- R170, R173: COUNTER-SATURATED falls at the READ-CLEAR of the last counter at the top; its latch is set, and the READ-CLEAR
makes no prompt. -/
theorem test_readClear_prompts_no_notice :
    let s := { idle with
      counters := idle.counters.set 3 0xFFFFFFFF#32
      events := { idle.events with held := 1#32 <<< 24, notify := 0x7FFFFFFF#32 } }
    let t := after .readClear (asked s (request 5 11 1 3 []))
    t.events.latches = 1#32 <<< 24 ∧ t.events.sequence = 0#8 ∧ t.events.pending = false ∧
      t.transmit.tributary.cells.map (·.kind) = [2#8] := by
  decide +kernel

/-- 07 Worked sequence: a tributary named twice is INVALID, and a WRITE while the COMMIT waits is RETRY. -/
theorem test_commit_invalid :
    (answer (after .commit (asked doubled (request 6 0 0 0 [])))).map (·.1) = some 4#8 := by decide +kernel

theorem test_write_retry :
    let t := after .write (asked committing (request 2 7 1 20 [0#32]))
    (answer t).map (·.1) = some 1#8 ∧ t.tables.retryFlag = true ∧ t.count .retries = 1#32 := by decide +kernel

theorem test_commitSwap_answers_done :
    (answer (after .commitSwap committing)).map (·.1) = some 0#8 ∧ (after .commitSwap committing).tables.commit = none := by
  decide +kernel

/-- R137: only at a local frame start. -/
theorem test_commitSwap_waits_for_a_frame_start :
    let s := { committing with instant := ⟨false, false⟩ }
    (after .commitSwap s).tables.commit.isSome ∧
      (after .commitSwap (after (.localFrameStart .issue) s)).tables.commit = none := by
  decide +kernel

/-- R165: node 4, JOINED at position 1, role NORMAL. -/
theorem test_poll_node_summary :
    (answer (after .poll (asked idle (request 8 0 0 0 [])))).map (·.2[1]?) = some (some 0x04010106#32) := by decide +kernel

/-- 05 Worked sequence: operator commands at position 0. -/
theorem test_manualEast_restores_its_span :
    let t := after .manualEast (asked (joinedAt 11#6 0) (commandRequest 3))
    t.signalling.own.east.condition = .manual ∧ t.resolver.restored = 1#32 ∧ t.resolver.role = .loopEast := by decide +kernel

theorem test_manualWest_refused_by_trouble :
    (answer (after .manualWest (asked eastLooped (commandRequest 4)))).map (·.1) = some 2#8 := by decide +kernel

theorem test_forceEast_bridges :
    let t := after .forceEast (asked (joinedAt 11#6 0) (commandRequest 1))
    t.resolver.restored = 1#32 ∧ t.engine.east = ⟨.bridged, some 5000, false⟩ ∧ t.signalling.own.east.edition = 1 := by
  decide +kernel

theorem test_forceWest_restores_its_span :
    (after .forceWest (asked (joinedAt 11#6 0) (commandRequest 2))).resolver.restored = 4#32 := by decide +kernel

theorem test_park_empties_the_restored_set :
    let t := after .park (asked eastLooped (commandRequest 5))
    t.signalling.own.east.condition = .park ∧ t.signalling.own.west.condition = .park ∧ t.resolver.restored = 0#32 ∧
      t.resolver.role = .drain := by
  decide +kernel

theorem test_clearPark_lowers_the_condition :
    (after .clearPark (asked { idle with park := true } (commandRequest 8))).condition.east.announced = .idle := by decide +kernel

theorem test_clearEast_ends_hold :
    let t := after .clearEast (asked waiting (commandRequest 6))
    t.condition.east = ⟨.idle, none, .none, .idle⟩ ∧ t.resolver.restored = 0#32 := by decide +kernel

theorem test_clearWest_leaves_the_other_side :
    (after .clearWest (asked waiting (commandRequest 7))).condition.east.detected = .hold := by decide +kernel

theorem test_join_finds_the_position :
    (after .join (asked alone (commandRequest 9))).identity = ⟨4#6, 4#6, true, some 1⟩ := by decide +kernel

theorem test_leave_detaches : (after .leave (asked idle (commandRequest 10))).resolver.role = .detached := by decide +kernel

theorem test_leave_refused_while_looped :
    (answer (after .leave (asked eastLooped (commandRequest 10)))).map (·.1) = some 2#8 := by decide +kernel

theorem test_restart_samples_straps :
    (after (.restart 9#6) (asked idle (commandRequest 11))).identity = ⟨9#6, 9#6, false, none⟩ := by decide +kernel

theorem test_noticeSendAttempt_writes :
    let t := after .noticeSendAttempt noticePending
    t.events.pending = false ∧ t.events.sequence = 1#8 ∧ t.transmit.tributary.cells.map (·.kind) = [3#8] := by decide +kernel

theorem test_unknownOperation_status :
    (answer (after .unknownOperation (asked idle (request 9 0 0 0 [])))).map (·.1) = some 6#8 := by decide +kernel

theorem test_unknownCommand_status :
    (answer (after .unknownCommand (asked idle (commandRequest 12)))).map (·.1) = some 6#8 := by decide +kernel

end Sys2Proof.Tests
end

/-! PROOFS. The end of a Span Monitor event: the Condition Unit's chain, the reports of a side, the flag and the hold-off,
and with them the settle mask's expiry (O30). -/

namespace Sys2Proof.Machine

/-! ### MANUAL commands through a table-change notice (R96) -/

/-- From s to t the MANUAL commands all stand, or all are dropped with a COMMAND-DROPPED; no other command changes (R96). -/
def ManualFollows (s t : State) : Prop :=
  (∀ y, (t.condition.get y).command = (s.condition.get y).command) ∧ t.events.pulses = s.events.pulses ∨
  (∃ y, (s.condition.get y).command = .manual) ∧
    (∀ y, (t.condition.get y).command =
      if (s.condition.get y).command = .manual then .none else (s.condition.get y).command) ∧
    t.events.pulses = s.events.pulses ||| 1#32 <<< 27

theorem ManualFollows.trans {s t u : State} (h : ManualFollows s t) (k : ManualFollows t u) : ManualFollows s u := by
  rcases h with ⟨same, quiet⟩ | ⟨some, dropped, pulse⟩
  · rcases k with ⟨same', quiet'⟩ | ⟨some', dropped', pulse'⟩
    · exact .inl ⟨fun y => (same' y).trans (same y), quiet'.trans quiet⟩
    · simp only [same] at some' dropped'
      exact .inr ⟨some', dropped', by rw [pulse', quiet]⟩
  · rcases k with ⟨same', quiet'⟩ | ⟨⟨y, some'⟩, -, -⟩
    · exact .inr ⟨some, fun y => (same' y).trans (dropped y), quiet'.trans pulse⟩
    · rw [dropped] at some'
      split at some' <;> contradiction

/-- In an event that starts with no pulse waiting, the pulse events are the COMMAND-DROPPED of its drop. -/
theorem ManualFollows.pulses {s t : State} (h : ManualFollows s t) (none : s.events.pulses = 0#32) :
    t.events.pulses = commandDropped [.east, .west] s t := by
  unfold commandDropped
  rcases h with ⟨same, quiet⟩ | ⟨⟨y, manual⟩, dropped, pulse⟩
  · rw [if_neg, quiet, none]
    rintro ⟨y, -, manual, gone⟩
    rw [same, manual] at gone
    contradiction
  · rw [if_pos, pulse, none, BitVec.zero_or]
    exact ⟨y, by cases y <;> simp, manual, by rw [dropped, if_pos manual]⟩

/-- From s to t no detected condition and no WTR timer moves, and commands change by a drop of MANUAL alone. -/
structure DetectionKept (s t : State) : Prop where
  detected : ∀ y, (t.condition.get y).detected = (s.condition.get y).detected
  wtr : ∀ y, (t.condition.get y).wtr = (s.condition.get y).wtr
  manual : ManualFollows s t

theorem DetectionKept.trans {s t u : State} (h : DetectionKept s t) (k : DetectionKept t u) : DetectionKept s u :=
  ⟨fun y => (k.detected y).trans (h.detected y), fun y => (k.wtr y).trans (h.wtr y), h.manual.trans k.manual⟩

/-- Work that leaves the Condition Unit and the pulse events alone keeps the detection. -/
theorem DetectionKept.of_eq {s t : State} (condition : t.condition = s.condition)
    (pulses : t.events.pulses = s.events.pulses) : DetectionKept s t :=
  ⟨fun y => by rw [condition], fun y => by rw [condition], .inl ⟨fun y => by rw [condition], pulses⟩⟩

theorem formAnnounced_detectionKept (s : State) : DetectionKept s (formAnnounced s) :=
  ⟨fun y => by cases y <;> rfl, fun y => by cases y <;> rfl, .inl ⟨fun y => by cases y <;> rfl, rfl⟩⟩

@[simp] theorem ConditionSide.dropManual_detected (c : ConditionSide) : c.dropManual.detected = c.detected := by
  unfold ConditionSide.dropManual
  split <;> rfl

@[simp] theorem ConditionSide.dropManual_wtr (c : ConditionSide) : c.dropManual.wtr = c.wtr := by
  unfold ConditionSide.dropManual
  split <;> rfl

@[simp] theorem ConditionSide.dropManual_command (c : ConditionSide) :
    c.dropManual.command = if c.command = .manual then .none else c.command := by
  unfold ConditionSide.dropManual
  split <;> rfl

theorem dropManual_detectionKept (s : State) : DetectionKept s (dropManual s) := by
  unfold dropManual
  split
  next due =>
    have manual : ∃ y, (s.condition.get y).command = .manual := by
      rcases (by simpa using due : _ ∧ (_ ∨ _)).2 with east | west
      · exact ⟨.east, east⟩
      · exact ⟨.west, west⟩
    refine DetectionKept.trans ⟨fun y => ?_, fun y => ?_, .inr ⟨manual, fun y => ?_, rfl⟩⟩ (formAnnounced_detectionKept _)
    · cases y <;> exact ConditionSide.dropManual_detected _
    · cases y <;> exact ConditionSide.dropManual_wtr _
    · cases y <;> exact ConditionSide.dropManual_command _
  next => exact .of_eq rfl rfl

theorem recompute_detectionKept (s : State) : DetectionKept s (recompute s) := .of_eq rfl rfl

theorem engineNotice_detectionKept (x : Side) (old : Bool) (s : State) : DetectionKept s (engineNotice x old s) :=
  .of_eq rfl rfl

theorem noticePass_detectionKept (s : State) : DetectionKept s (noticePass s) :=
  (((dropManual_detectionKept s).trans (recompute_detectionKept _)).trans (engineNotice_detectionKept .east _ _)).trans
    (engineNotice_detectionKept .west _ _)

theorem tableNotice_detectionKept (s : State) : DetectionKept s (tableNotice s) := by
  unfold tableNotice
  dsimp only
  split
  · exact noticePass_detectionKept s
  · exact (noticePass_detectionKept s).trans (noticePass_detectionKept _)

theorem announce_detectionKept (s : State) : DetectionKept s (announce s) := by
  unfold announce
  dsimp only
  split
  · exact (formAnnounced_detectionKept s).trans (tableNotice_detectionKept _)
  · exact formAnnounced_detectionKept s

/-! ### Reports of a Span Monitor (R86 to R90) -/

/-- A side's detected condition with its WTR timer. -/
def ConditionSide.detection (c : ConditionSide) : Detected × Timer :=
  (c.detected, c.wtr)

/-- What a report does to the detected condition and WTR timer of a side. -/
def Report.moves (quality : Quality) (timer : Timer) (d : Detected × Timer) (r : Report) : Detected × Timer :=
  ((⟨d.1, d.2, .none, .idle⟩ : ConditionSide).report quality timer r).detection

/-- A report reads and moves the detected condition and the WTR timer alone (R87 to R89). -/
theorem ConditionSide.report_eq (c : ConditionSide) (quality : Quality) (timer : Timer) (r : Report) :
    c.report quality timer r =
      { c with detected := (r.moves quality timer c.detection).1, wtr := (r.moves quality timer c.detection).2 } := by
  unfold Report.moves ConditionSide.report ConditionSide.detection
  cases r with
  | standingDefect => dsimp only; split <;> rfl
  | defectClear => dsimp only; split <;> cases quality <;> rfl
  | qualityChange q => cases q <;> dsimp only <;> split <;> rfl

theorem Report.moves_standingDefect (quality : Quality) (timer : Timer) (d : Detected × Timer) :
    Report.moves quality timer d .standingDefect = (.cut, if d.1 = .cut then d.2 else none) := by
  obtain ⟨detected, wtr⟩ := d
  cases detected <;> rfl

/-- A defect clear ends a CUT in FADE or HOLD by the quality (R88). -/
theorem Report.moves_defectClear {quality : Quality} (h : quality ≠ .excessive) (timer : Timer) (d : Detected × Timer) :
    Report.moves quality timer d .defectClear =
      if d.1 = .cut then if quality = .fading then (.fade, none) else (.hold, timer) else d := by
  obtain ⟨detected, wtr⟩ := d
  cases quality with
  | excessive => exact absurd rfl h
  | good => cases detected <;> rfl
  | fading => cases detected <;> rfl

/-- The report of a quality change, where there is one (R38, R89). -/
theorem Report.moves_qualityReports (before after : Quality) (timer : Timer) (d : Detected × Timer) :
    (qualityReports before after).foldl (Report.moves after timer) d =
      if after = before then d
      else if after = .fading ∧ (d.1 = .idle ∨ d.1 = .hold) then (.fade, none)
      else if after = .good ∧ d.1 = .fade then (.hold, timer)
      else d := by
  obtain ⟨detected, wtr⟩ := d
  unfold qualityReports
  by_cases same : before = after
  · rw [if_pos same, if_pos same.symm]
    rfl
  · rw [if_neg same, if_neg (Ne.symm same)]
    cases after <;> cases detected <;> rfl

/-- One report: the side's detected condition moves, and the rest is the announcement's work (R86, R98). -/
theorem takeReport_detection (x : Side) (s : State) (r : Report) :
    ((takeReport x s r).condition.get x).detection =
        r.moves (s.monitor.get x).quality (startSeconds s.profile.wtrTime) (s.condition.get x).detection ∧
      ((takeReport x s r).condition.get x.other).detection = (s.condition.get x.other).detection ∧
      ManualFollows s (takeReport x s r) := by
  have kept := announce_detectionKept
    (s.updateCondition x fun c => c.report (s.monitor.get x).quality (startSeconds s.profile.wtrTime) r)
  have commands : ManualFollows s
      (s.updateCondition x fun c => c.report (s.monitor.get x).quality (startSeconds s.profile.wtrTime) r) := by
    refine .inl ⟨fun y => ?_, rfl⟩
    simp only [State.updateCondition, State.setCondition_condition, Sides.update, Sides.get_set, ConditionSide.report_eq]
    split
    next h => rw [h]
    next => rfl
  have moved : ∀ y, ((takeReport x s r).condition.get y).detection = ((s.updateCondition x fun c =>
      c.report (s.monitor.get x).quality (startSeconds s.profile.wtrTime) r).condition.get y).detection :=
    fun y => Prod.ext (kept.detected y) (kept.wtr y)
  refine ⟨?_, ?_, commands.trans kept.manual⟩
  · rw [moved]
    simp [State.updateCondition, ConditionSide.report_eq, ConditionSide.detection]
  · rw [moved]
    simp [State.updateCondition]

/-- Reports taken one after the other. -/
theorem takeReports_detection (x : Side) (rs : List Report) (s : State) :
    ((rs.foldl (takeReport x) s).condition.get x).detection =
        rs.foldl (Report.moves (s.monitor.get x).quality (startSeconds s.profile.wtrTime)) (s.condition.get x).detection ∧
      ((rs.foldl (takeReport x) s).condition.get x.other).detection = (s.condition.get x.other).detection ∧
      ManualFollows s (rs.foldl (takeReport x) s) := by
  induction rs generalizing s with
  | nil => exact ⟨rfl, rfl, .inl ⟨fun _ => rfl, rfl⟩⟩
  | cons r rs ih =>
    obtain ⟨moved, other, manual⟩ := takeReport_detection x s r
    obtain ⟨moved', other', manual'⟩ := ih (takeReport x s r)
    have monitor : (takeReport x s r).monitor = s.monitor := by rw [takeReport_frame x s r]
    have profile : (takeReport x s r).profile = s.profile := by rw [takeReport_frame x s r]
    rw [moved, monitor, profile] at moved'
    exact ⟨moved', other'.trans other, manual.trans manual'⟩

/-! ### The end of a Span Monitor event (R25 to R28) -/

/-- The flag is formed from the defects, and besides it the hold-off and its timer alone can move (R25, R26). -/
theorem Monitor.formFlag_frame (m : Monitor) (joined : Bool) (time : Nat) :
    (m.formFlag joined time).1 =
      { m with
        flag := m.defects.present, holdOff := (m.formFlag joined time).1.holdOff
        holdOffTimer := (m.formFlag joined time).1.holdOffTimer } := by
  unfold Monitor.formFlag
  dsimp only
  split
  · split
    · unfold Monitor.startHoldOff
      split <;> rfl
    · rfl
  · rfl
  · rfl

/-- The reports of a rise and of a fall of the flag (R26, R27). -/
theorem Monitor.formFlag_reports (m : Monitor) (joined : Bool) (time : Nat) :
    (m.formFlag joined time).2 =
      if joined = true ∧ m.flag = false ∧ m.defects.present = true ∧ time = 0 then [.standingDefect]
      else if m.flag = true ∧ m.defects.present = false then [.defectClear]
      else [] := by
  unfold Monitor.formFlag Monitor.startHoldOff
  cases m.flag <;> cases m.defects.present <;> cases joined <;> simp
  split <;> rfl

/-- The hold-off after a Span Monitor event that left the old flag, hold-off and timer in place until its end (R26, R28). -/
theorem Monitor.formFlag_holdOff {s : State} {x : Side} {m : Monitor} (sound : MonitorSound s x)
    (flag : m.flag = (s.monitor.get x).flag) (holdOff : m.holdOff = (s.monitor.get x).holdOff)
    (timer : m.holdOffTimer = (s.monitor.get x).holdOffTimer) :
    ((m.formFlag s.joined s.profile.holdOffTime).1.holdOff, (m.formFlag s.joined s.profile.holdOffTime).1.holdOffTimer) =
      holdOffAfter s x m.defects.present := by
  unfold holdOffAfter Monitor.formFlag Monitor.startHoldOff
  dsimp only
  rw [← flag, ← holdOff, ← timer]
  cases alone : s.joined
  · have absent : m.holdOff = .absent := holdOff.trans (sound.absent.2 (.inl alone))
    have stopped : m.holdOffTimer = none := by
      have := mt sound.holding.1
      rw [← holdOff, ← timer, absent] at this
      simpa using this
    cases m.flag <;> cases m.defects.present <;> simp [absent, stopped, Monitor.endHoldOff]
  · cases m.flag <;> cases m.defects.present <;> simp [Monitor.endHoldOff]
    split <;> rfl

/-- A Span Monitor event of side x that has brought s to u, where its flag is formed and its reports are handed over: the
detected condition follows the flag and the quality (R27, R45, R87 to R90). -/
theorem closeMonitor_detectionFollows {s u : State} {x : Side} (condition : u.condition = s.condition)
    (joined : u.joined = s.joined) (profile : u.profile = s.profile)
    (flag : (u.monitor.get x).flag = (s.monitor.get x).flag)
    (excessive : (u.monitor.get x).defects.excessive = ((u.monitor.get x).quality == .excessive)) :
    DetectionFollows s (closeMonitor x (qualityReports (s.monitor.get x).quality (u.monitor.get x).quality) u) x := by
  have reports := takeReports_detection x
    (((u.monitor.get x).formFlag u.joined u.profile.holdOffTime).2 ++
      qualityReports (s.monitor.get x).quality (u.monitor.get x).quality)
    (u.setMonitor (u.monitor.set x ((u.monitor.get x).formFlag u.joined u.profile.holdOffTime).1))
  obtain ⟨moved, other, -⟩ := reports
  have now : (closeMonitor x (qualityReports (s.monitor.get x).quality (u.monitor.get x).quality) u).monitor.get x =
      ((u.monitor.get x).formFlag u.joined u.profile.holdOffTime).1 := by
    rw [closeMonitor_frame x _ u]
    exact Sides.get_set_self _ _ _
  refine ⟨Eq.trans moved ?_, ?_, ?_⟩
  · unfold State.detectedAfter
    rw [now, Monitor.formFlag_frame]
    simp only [State.setMonitor_monitor, State.setMonitor_profile, State.setMonitor_condition, Sides.get_set_self,
      Monitor.formFlag_reports, condition, joined, profile, flag, ConditionSide.detection, List.foldl_append]
    by_cases rise : s.joined = true ∧ (s.monitor.get x).flag = false ∧ (u.monitor.get x).defects.present = true ∧
        s.profile.holdOffTime = 0
    · rw [if_pos rise, if_pos rise, List.foldl_cons, List.foldl_nil, Report.moves_standingDefect,
        Report.moves_qualityReports]
      simp
    rw [if_neg rise, if_neg rise]
    by_cases fall : (s.monitor.get x).flag = true ∧ (u.monitor.get x).defects.present = false
    · have bounded : (u.monitor.get x).quality ≠ .excessive := by
        intro bad
        rw [bad] at excessive
        simp [Defects.present, excessive] at fall
      rw [if_pos fall, List.foldl_cons, List.foldl_nil, Report.moves_defectClear bounded, Report.moves_qualityReports]
      by_cases cut : (s.condition.get x).detected = .cut
      · cases q : (u.monitor.get x).quality with
        | excessive => exact absurd q bounded
        | good => simp [cut, fall, startSeconds, Config.framesPerSecond]
        | fading => simp [cut, fall]
      · simp [cut, startSeconds, Config.framesPerSecond]
    · rw [if_neg fall, if_neg fun h => fall ⟨h.1, h.2.1⟩, List.foldl_nil, Report.moves_qualityReports]
      rfl
  · exact congrArg Prod.fst (other.trans (by rw [State.setMonitor_condition, condition]))
  · exact congrArg Prod.snd (other.trans (by rw [State.setMonitor_condition, condition]))

/-- The MANUAL commands through a Span Monitor event's end. -/
theorem closeMonitor_manualFollows (x : Side) (changes : List Report) (s : State) :
    ManualFollows s (closeMonitor x changes s) :=
  (takeReports_detection x _ (s.setMonitor _)).2.2

/-- The Span Monitors after a Span Monitor event. -/
theorem closeMonitor_monitor (x : Side) (changes : List Report) (s : State) :
    (closeMonitor x changes s).monitor =
      s.monitor.set x ((s.monitor.get x).formFlag s.joined s.profile.holdOffTime).1 := by
  rw [closeMonitor_frame x changes s]
  rfl

/-- The detection is read from the Span Monitors and the Condition Unit. -/
theorem DetectionFollows.congr {s t u : State} {x : Side} (h : DetectionFollows s t x) (monitor : u.monitor = t.monitor)
    (condition : u.condition = t.condition) : DetectionFollows s u x := by
  unfold DetectionFollows State.detectedAfter at *
  rw [monitor, condition]
  exact h

theorem Defects.present_iff (d : Defects) : d.present = true ↔ d.flagged := by
  simp [Defects.present, Defects.flagged, or_assoc]

/-! ### The settle mask (R41) -/

/-- What the settle mask's expiry makes of a side's Span Monitor before the flag is formed. -/
def Monitor.unmasked (m : Monitor) (p : Profile) (x : Side) : Monitor :=
  { m.evaluate p x with settle := none }

theorem settleExpires_eq (x : Side) (s : State) :
    settleExpires x s =
      closeMonitor x (qualityReports (s.monitor.get x).quality ((s.monitor.get x).unmasked s.profile x).quality)
        (s.setMonitor (s.monitor.set x ((s.monitor.get x).unmasked s.profile x))) := rfl

/-- A settle mask that has not run out, or none, is taken for nothing. -/
theorem exec_settleMaskExpiry_idle {s : State} {x : Side} (h : (s.monitor.get x).settle ≠ some 0) :
    exec (.settleMaskExpiry x) s = .next s := by
  have idle : timerDue (s.monitor.get x).settle = false := eq_false_of_ne_true (mt (timerDue_iff _).1 h)
  show Host.Outcome.next (takeSettleMaskExpiry x s) = _
  simp [takeSettleMaskExpiry, idle]

theorem exec_settleMaskExpiry_due {s : State} {x : Side} (high : s.resetN = true) (h : (s.monitor.get x).settle = some 0) :
    exec (.settleMaskExpiry x) s = .next (event (settleExpires x) s) := by
  have due : timerDue (s.monitor.get x).settle = true := (timerDue_iff _).2 h
  show Host.Outcome.next (takeSettleMaskExpiry x s) = _
  simp [takeSettleMaskExpiry, due, high]

theorem settleExpires_monitor (x : Side) (s : State) :
    (settleExpires x s).monitor = s.monitor.set x
      (((s.monitor.get x).unmasked s.profile x).formFlag s.joined s.profile.holdOffTime).1 := by
  rw [settleExpires_eq, closeMonitor_monitor]
  simp only [State.setMonitor_monitor, Sides.get_set_self, Sides.set_set]
  rfl

/-- Besides the Span Monitors, the expiry moves what a report's chain can. -/
theorem settleExpires_frame (x : Side) (s : State) :
    RestorationFrame { s with monitor := (settleExpires x s).monitor } (settleExpires x s) := by
  have frame := closeMonitor_frame x
    (qualityReports (s.monitor.get x).quality ((s.monitor.get x).unmasked s.profile x).quality)
    (s.setMonitor (s.monitor.set x ((s.monitor.get x).unmasked s.profile x)))
  rw [settleExpires_eq, closeMonitor_monitor]
  exact frame

/-- Quality moves the side's detected condition, and a rise of the flag does (R27, R41, R87, R89). -/
theorem settleExpires_detectionFollows (x : Side) (s : State) : DetectionFollows s (settleExpires x s) x := by
  have follows := closeMonitor_detectionFollows (s := s) (x := x)
    (u := s.setMonitor (s.monitor.set x ((s.monitor.get x).unmasked s.profile x))) rfl rfl rfl
    (by rw [State.setMonitor_monitor, Sides.get_set_self]; rfl)
    (by rw [State.setMonitor_monitor, Sides.get_set_self]; rfl)
  rw [State.setMonitor_monitor, Sides.get_set_self] at follows
  exact follows

theorem settleExpires_manualFollows (x : Side) (s : State) : ManualFollows s (settleExpires x s) :=
  closeMonitor_manualFollows x _ (s.setMonitor _)

/-- The expiry as one event: what the Event Unit reports of it (R166 to R172). -/
theorem settleExpires_reported {s : State} (x : Side) (sound : EventsSound s) :
    Reported s.events (commandDropped [.east, .west] s (event (settleExpires x) s)) s.transmit
      (event (settleExpires x) s) := by
  have frame := settleExpires_frame x s
  have pulses := (settleExpires_manualFollows x s).pulses sound.pulses
  have dropped : commandDropped [.east, .west] s (event (settleExpires x) s) =
      commandDropped [.east, .west] s (settleExpires x s) := by
    unfold commandDropped
    rw [event_frame]
  have transmit : (settleExpires x s).transmit = s.transmit := by rw [frame]
  rw [dropped, ← pulses, ← transmit]
  apply event_reported <;> rw [frame]
  exact ⟨rfl, rfl, rfl, rfl⟩

/-- The expiry as one event moves the Span Monitors, the Condition Unit's chain, the Event Unit and the transmit queues, and
nothing else. -/
theorem settleExpires_event_frame (x : Side) (s : State) :
    let t := event (settleExpires x) s
    t = { s with
      monitor := t.monitor, condition := t.condition, signalling := { s.signalling with own := t.signalling.own },
      resolver := t.resolver, engine := t.engine, transmit := t.transmit, events := t.events, alertN := t.alertN } := by
  dsimp only
  conv_lhs => rw [event_frame, settleExpires_frame x s]
  rw [event_frame]

/-- The side's Span Monitor after the expiry: unmasked, with its flag formed (R25, R26, R41). -/
theorem settleExpires_event_monitor (x : Side) (s : State) :
    (event (settleExpires x) s).monitor = s.monitor.set x
      (((s.monitor.get x).unmasked s.profile x).formFlag s.joined s.profile.holdOffTime).1 := by
  rw [event_frame]
  exact settleExpires_monitor x s

/-- Settles O30: the expiry is one Span Monitor event on the unmasked monitor, with quality GOOD before it since the mask ran. -/
theorem settleMaskExpiryEvaluates : Obligations.SettleMaskExpiryEvaluates := by
  intro s x high events sound
  refine ⟨exec_settleMaskExpiry_idle, fun due => ⟨_, exec_settleMaskExpiry_due high due, ?_⟩⟩
  have good : (s.monitor.get x).quality = .good := (sound.settle (by simp [due])).2
  have quality : ((s.monitor.get x).unmasked s.profile x).quality =
      evaluateQuality (s.profile.tOn.get x) (s.profile.tOff.get x) (s.profile.tFail.get x) .good
        (s.monitor.get x).density := by
    rw [← good]
    rfl
  have holdOff := Monitor.formFlag_holdOff (m := (s.monitor.get x).unmasked s.profile x) sound rfl rfl rfl
  have detection : DetectionFollows s (event (settleExpires x) s) x :=
    (settleExpires_detectionFollows x s).congr (by rw [event_frame]) (by rw [event_frame])
  have now := congrArg (Sides.get · x) (settleExpires_event_monitor x s)
  have other := congrArg (Sides.get · x.other) (settleExpires_event_monitor x s)
  simp only [Sides.get_set_self, Sides.get_set_other] at now other
  dsimp only
  rw [now, Monitor.formFlag_frame]
  exact ⟨rfl, rfl, rfl, quality, rfl, Defects.present_iff _, holdOff, other, detection, settleExpires_reported x events,
    settleExpires_event_frame x s⟩

end Sys2Proof.Machine

/-! PROOFS. The Span Monitor's numbers: the estimator (O58), the evaluation of quality (O60) and the rate codes (O59). -/

namespace Sys2Proof.Machine

/-! ### The estimator (R30) -/

/-- The size of a step over a difference (R30 steps 4 to 6). -/
def estimatorMove (diff w : Nat) : Nat :=
  max 1 ((diff * w * 2 + 65536) / 131072)

/-- A step never passes the target. -/
theorem estimatorMove_le {diff w : Nat} (apart : 0 < diff) (weight : w ≤ 65535) : estimatorMove diff w ≤ diff := by
  have product : diff * w ≤ diff * 65535 := Nat.mul_le_mul_left diff weight
  unfold estimatorMove
  omega

theorem estimatorMove_pos (diff w : Nat) : 0 < estimatorMove diff w := by
  unfold estimatorMove
  omega

/-- The step has the sign of the difference and the size of the move (R30). -/
theorem estimatorStep_eq {diff : Int} (apart : diff ≠ 0) (w : Nat) :
    estimatorStep diff w = if diff < 0 then -(estimatorMove diff.natAbs w : Int) else estimatorMove diff.natAbs w := by
  have size : (if (diff.natAbs * w + 32768) / 65536 = 0 ∧ diff ≠ 0 then 1 else (diff.natAbs * w + 32768) / 65536) =
      estimatorMove diff.natAbs w := by
    unfold estimatorMove
    generalize diff.natAbs * w = p
    split <;> omega
  unfold estimatorStep
  simp only [size]

/-- Weight 0 holds d where it is (R30). -/
@[simp] theorem estimate_zero (d v : Nat) : estimate d v 0 = d := rfl

theorem estimate_below {d v w : Nat} (violations : v ≤ 32) (weight : w ≤ 65535) (running : w ≠ 0)
    (below : d < v * 1048576) : estimate d v w = d + estimatorMove (v * 1048576 - d) w := by
  have bound := estimatorMove_le (Nat.sub_pos_of_lt below) weight
  have diff : ((v * Config.densityUnit : Nat) : Int) - d = ((v * 1048576 - d : Nat) : Int) := by
    unfold Config.densityUnit
    omega
  unfold estimate Config.densityMax
  rw [if_neg running, diff, estimatorStep_eq (by omega), if_neg (by omega), Int.natAbs_natCast]
  omega

theorem estimate_above {d v w : Nat} (range : d ≤ 33554432) (weight : w ≤ 65535) (running : w ≠ 0)
    (above : v * 1048576 < d) : estimate d v w = d - estimatorMove (d - v * 1048576) w := by
  have bound := estimatorMove_le (Nat.sub_pos_of_lt above) weight
  have diff : ((v * Config.densityUnit : Nat) : Int) - d = -((d - v * 1048576 : Nat) : Int) := by
    unfold Config.densityUnit
    omega
  unfold estimate Config.densityMax
  rw [if_neg running, diff, estimatorStep_eq (by omega), if_pos (by omega), Int.natAbs_neg, Int.natAbs_natCast]
  omega

/-- d stays within its range (R30). -/
theorem estimate_le {d : Nat} (v w : Nat) (range : d ≤ 33554432) : estimate d v w ≤ 33554432 := by
  unfold estimate
  split
  · exact range
  · exact Nat.min_le_left _ _

/-- How far d stands from the target of v. -/
def estimatorGap (v d : Nat) : Nat :=
  (v * 1048576 - d) + (d - v * 1048576)

/-- Each update off the target brings d nearer to it. -/
theorem estimatorGap_lt {d v w : Nat} (range : d ≤ 33554432) (violations : v ≤ 32) (weight : w ≤ 65535) (running : w ≠ 0)
    (apart : d ≠ v * 1048576) : estimatorGap v (estimate d v w) < estimatorGap v d := by
  unfold estimatorGap
  rcases Nat.lt_or_gt_of_ne apart with below | above
  · rw [estimate_below violations weight running below]
    have step := estimatorMove_pos (v * 1048576 - d) w
    have bound := estimatorMove_le (Nat.sub_pos_of_lt below) weight
    omega
  · rw [estimate_above range weight running above]
    have step := estimatorMove_pos (d - v * 1048576) w
    have bound := estimatorMove_le (Nat.sub_pos_of_lt above) weight
    omega

/-- A steady v brings d to its target. -/
theorem estimate_reaches {d v w : Nat} (range : d ≤ 33554432) (violations : v ≤ 32) (weight : w ≤ 65535)
    (running : w ≠ 0) : ∃ m, (fun e => estimate e v w)^[m] d = v * 1048576 := by
  induction gap : estimatorGap v d using Nat.strong_induction_on generalizing d with
  | _ n nearer =>
    by_cases there : d = v * 1048576
    · exact ⟨0, there⟩
    · have closer := estimatorGap_lt range violations weight running there
      obtain ⟨m, reached⟩ := nearer _ (gap ▸ closer) (estimate_le v w range) rfl
      exact ⟨m + 1, reached⟩

/-- Settles O58: the two directions of a step, and the reaching of the target by induction on the gap to it. -/
theorem estimatorFollowsTheTarget : Obligations.EstimatorFollowsTheTarget := by
  intro d v w range violations weight
  refine ⟨estimate_le v w range, estimate_zero d v, fun running below => ?_, fun running above => ?_,
    estimate_reaches range violations weight⟩
  · have bound := estimatorMove_le (Nat.sub_pos_of_lt below) weight
    rw [estimate_below violations weight running below]
    exact ⟨rfl, by omega⟩
  · have bound := estimatorMove_le (Nat.sub_pos_of_lt above) weight
    rw [estimate_above range weight running above]
    exact ⟨Nat.sub_add_cancel (bound.trans (Nat.sub_le _ _)), by omega⟩

/-! ### The evaluation of quality (R35, R37) -/

section
variable {tOn tOff tFail : Half} {d : Nat}

/-- From the effective T_fail on, quality is EXCESSIVE whatever it was. -/
theorem evaluateQuality_of_fail_le (q : Quality) (h : max (rateValue tFail) (rateValue tOn) ≤ d) :
    evaluateQuality tOn tOff tFail q d = .excessive := by
  have on : rateValue tOn ≤ d := (Nat.le_max_right _ _).trans h
  have off : ¬ d < min (rateValue tOff) (rateValue tOn) := fun low =>
    absurd (low.trans_le (Nat.min_le_right _ _)) (Nat.not_lt.2 on)
  cases q with
  | good => exact if_pos h
  | fading => exact if_pos h
  | excessive => exact (if_neg off).trans (if_neg (Nat.not_lt.2 on))

/-- Below the effective T_off quality is GOOD whatever it was. -/
theorem evaluateQuality_of_lt_off (q : Quality) (h : d < min (rateValue tOff) (rateValue tOn)) :
    evaluateQuality tOn tOff tFail q d = .good := by
  have on : ¬ rateValue tOn ≤ d := Nat.not_le.2 (h.trans_le (Nat.min_le_right _ _))
  have fail : ¬ max (rateValue tFail) (rateValue tOn) ≤ d := fun high => on ((Nat.le_max_right _ _).trans high)
  cases q with
  | good => exact (if_neg fail).trans (if_neg on)
  | fading => exact (if_neg fail).trans (if_pos h)
  | excessive => exact if_pos h

/-- Between the two quality is FADING, but that GOOD waits for T_on and EXCESSIVE stays down to it. -/
theorem evaluateQuality_between (q : Quality) (notGood : ¬ d < min (rateValue tOff) (rateValue tOn))
    (notFailed : ¬ max (rateValue tFail) (rateValue tOn) ≤ d) :
    evaluateQuality tOn tOff tFail q d =
      if q = .good ∧ d < rateValue tOn then .good
      else if q = .excessive ∧ rateValue tOn ≤ d then .excessive
      else .fading := by
  unfold evaluateQuality
  cases q <;> simp only [notGood, notFailed, if_false, true_and, false_and, reduceCtorEq]
  case good => simp only [← Nat.not_lt, ite_not]
  case excessive => simp only [← Nat.not_lt, ite_not]

theorem evaluateQuality_excessive_iff (q : Quality) :
    evaluateQuality tOn tOff tFail q d = .excessive ↔
      if q = .excessive then rateValue tOn ≤ d else max (rateValue tFail) (rateValue tOn) ≤ d := by
  by_cases failed : max (rateValue tFail) (rateValue tOn) ≤ d
  · have on : rateValue tOn ≤ d := (Nat.le_max_right _ _).trans failed
    simp only [evaluateQuality_of_fail_le q failed, failed, on, ite_self]
  by_cases good : d < min (rateValue tOff) (rateValue tOn)
  · have on : ¬ rateValue tOn ≤ d := Nat.not_le.2 (good.trans_le (Nat.min_le_right _ _))
    simp only [evaluateQuality_of_lt_off q good, failed, on, ite_self, reduceCtorEq]
  rw [evaluateQuality_between q good failed]
  cases q with
  | good => simp [failed, ite_eq_iff]
  | fading => simp [failed]
  | excessive => simp

theorem evaluateQuality_good_iff (q : Quality) :
    evaluateQuality tOn tOff tFail q d = .good ↔
      if q = .good then d < rateValue tOn else d < min (rateValue tOff) (rateValue tOn) := by
  by_cases failed : max (rateValue tFail) (rateValue tOn) ≤ d
  · have on : ¬ d < rateValue tOn := Nat.not_lt.2 ((Nat.le_max_right _ _).trans failed)
    have off : ¬ d < min (rateValue tOff) (rateValue tOn) := fun low => on (low.trans_le (Nat.min_le_right _ _))
    simp only [evaluateQuality_of_fail_le q failed, off, on, ite_self, reduceCtorEq]
  by_cases good : d < min (rateValue tOff) (rateValue tOn)
  · have on : d < rateValue tOn := good.trans_le (Nat.min_le_right _ _)
    simp only [evaluateQuality_of_lt_off q good, good, on, ite_self]
  rw [evaluateQuality_between q good failed]
  cases q with
  | good => simp
  | fading => simp [good]
  | excessive => simp [good, ite_eq_iff]

end

/-- Settles O60: what quality becomes by where d lies among the effective thresholds, which stand in order. -/
theorem qualityIsEvaluated : Obligations.QualityIsEvaluated := fun _ _ _ q _ =>
  ⟨evaluateQuality_excessive_iff q, evaluateQuality_good_iff q, evaluateQuality_of_fail_le q, evaluateQuality_of_lt_off q⟩

/-! ### Rate codes (R33, R34) -/

/-- The value of a code given by exponent and mantissa (R33). -/
theorem rateValue_ofNat {e m : Nat} (exponent : e < 16) (mantissa : m < 4096) :
    rateValue (BitVec.ofNat 16 (e * 4096 + m)) = if e = 0 then m else (4096 + m) * 2 ^ (e - 1) := by
  have high : ((BitVec.ofNat 16 (e * 4096 + m)).extractLsb' 12 4).toNat = e := by
    rw [BitVec.extractLsb'_toNat, BitVec.toNat_ofNat, Nat.shiftRight_eq_div_pow]
    omega
  have low : ((BitVec.ofNat 16 (e * 4096 + m)).extractLsb' 0 12).toNat = m := by
    rw [BitVec.extractLsb'_toNat, BitVec.toNat_ofNat, Nat.shiftRight_zero]
    omega
  unfold rateValue
  simp only [high, low]

/-- Every code has an exponent and a mantissa. -/
theorem exists_rateCode_fields (c : Half) : ∃ e < 16, ∃ m < 4096, c = BitVec.ofNat 16 (e * 4096 + m) := by
  have bound := c.isLt
  refine ⟨c.toNat / 4096, by omega, c.toNat % 4096, by omega, BitVec.eq_of_toNat_eq ?_⟩
  rw [BitVec.toNat_ofNat]
  omega

/-- A value below 4096 is its own code (R34). -/
theorem rateCode_small {d : Nat} (small : d < 4096) : rateCode d = BitVec.ofNat 16 d := if_pos small

/-- d lies in octave k: a code for it has exponent k + 1 (R33). -/
def InOctave (k d : Nat) : Prop :=
  4096 * 2 ^ k ≤ d ∧ d < 8192 * 2 ^ k

theorem InOctave.log2_eq {k d : Nat} (h : InOctave k d) : Nat.log2 d = k + 12 := by
  obtain ⟨low, high⟩ := h
  have unit := Nat.two_pow_pos k
  rw [Nat.log2_eq_iff (by omega), pow_add, show k + 12 + 1 = k + 13 by rfl, pow_add]
  omega

theorem inOctave_log2 {d : Nat} (large : 4096 ≤ d) : InOctave (Nat.log2 d - 12) d := by
  have twelve : 12 ≤ Nat.log2 d := (Nat.le_log2 (by omega)).2 large
  have low := Nat.log2_self_le (n := d) (by omega)
  have high := Nat.lt_log2_self (n := d)
  obtain ⟨k, eq⟩ := Nat.exists_eq_add_of_le' twelve
  rw [eq, pow_add] at low
  rw [eq, show k + 12 + 1 = k + 13 by rfl, pow_add] at high
  rw [eq, Nat.add_sub_cancel]
  exact ⟨by omega, by omega⟩

/-- The octaves of the values up to the largest d (R30). -/
theorem InOctave.le_thirteen {k d : Nat} (h : InOctave k d) (range : d ≤ 33554432) : k ≤ 13 := by
  have bound : 2 ^ k ≤ 2 ^ 13 := by
    have := h.1
    omega
  exact (Nat.pow_le_pow_iff_right (by decide)).1 bound

/-- d in units of the last mantissa bit of its octave, rounded to the nearest, a half up (R34). -/
def mantissaUnits (k d : Nat) : Nat :=
  (2 * d + 2 ^ k) / (2 * 2 ^ k)

theorem InOctave.mantissaUnits_bounds {k d : Nat} (h : InOctave k d) :
    4096 ≤ mantissaUnits k d ∧ mantissaUnits k d ≤ 8192 := by
  obtain ⟨low, high⟩ := h
  have unit := Nat.two_pow_pos k
  unfold mantissaUnits
  constructor
  · rw [Nat.le_div_iff_mul_le (by omega)]
    omega
  · rw [← Nat.lt_succ_iff, Nat.div_lt_iff_lt_mul (by omega)]
    omega

/-- The code reported for d, rounding up to the next octave where the mantissa overflows (R34). -/
theorem InOctave.rateCode_eq {k d : Nat} (h : InOctave k d) :
    rateCode d =
      if mantissaUnits k d = 8192 then BitVec.ofNat 16 ((k + 2) * 4096)
      else BitVec.ofNat 16 ((k + 1) * 4096 + (mantissaUnits k d - 4096)) := by
  have large : ¬ d < 4096 := by
    have := h.1
    have := Nat.two_pow_pos k
    omega
  have exponent : Nat.log2 d - 11 = k + 1 := by rw [h.log2_eq]; rfl
  unfold rateCode mantissaUnits
  simp only [large, if_false, exponent, Nat.add_sub_cancel, show k + 1 + 1 = k + 2 by rfl]

/-- The code reported for d stands for d rounded to the units of its octave (R33, R34). -/
theorem InOctave.rateValue_rateCode {k d : Nat} (h : InOctave k d) (range : k ≤ 13) :
    rateValue (rateCode d) = mantissaUnits k d * 2 ^ k := by
  obtain ⟨low, high⟩ := h.mantissaUnits_bounds
  rw [h.rateCode_eq]
  split
  next full =>
    rw [← Nat.add_zero ((k + 2) * 4096), rateValue_ofNat (by omega) (by omega), full, if_neg (by omega),
      show k + 2 - 1 = k + 1 by rfl, pow_succ]
    omega
  next =>
    rw [rateValue_ofNat (by omega) (by omega), if_neg (by omega), Nat.add_sub_cancel, Nat.add_sub_cancel' low]

/-- The value of a code with exponent k + 1 is reported by that code. -/
theorem rateCode_mantissa {k m : Nat} (mantissa : m < 4096) :
    rateCode ((4096 + m) * 2 ^ k) = BitVec.ofNat 16 ((k + 1) * 4096 + m) := by
  have unit := Nat.two_pow_pos k
  have octave : InOctave k ((4096 + m) * 2 ^ k) :=
    ⟨Nat.mul_le_mul_right _ (by omega), Nat.mul_lt_mul_of_pos_right (by omega) unit⟩
  have units : mantissaUnits k ((4096 + m) * 2 ^ k) = 4096 + m := by
    unfold mantissaUnits
    rw [Nat.div_eq_iff (by omega)]
    rw [Nat.mul_comm (4096 + m) (2 * 2 ^ k), Nat.mul_assoc, Nat.mul_comm (2 ^ k)]
    omega
  rw [octave.rateCode_eq, units, if_neg (by omega), Nat.add_sub_cancel_left]

/-- Each code that stands for a value reports that value (R33, R34). -/
theorem rateCode_rateValue (c : Half) : rateCode (rateValue c) = c := by
  obtain ⟨e, exponent, m, mantissa, rfl⟩ := exists_rateCode_fields c
  rw [rateValue_ofNat exponent mantissa]
  cases e with
  | zero => rw [if_pos rfl, rateCode_small mantissa, Nat.zero_mul, Nat.zero_add]
  | succ k => rw [if_neg (by omega), Nat.add_sub_cancel, rateCode_mantissa mantissa]

theorem rateValue_rateCode_small {d : Nat} (small : d < 4096) : rateValue (rateCode d) = d := by
  have value := rateValue_ofNat (e := 0) (by decide) small
  rwa [if_pos rfl, Nat.zero_mul, Nat.zero_add, ← rateCode_small small] at value

/-- The code reported for d stands for a value within half a unit of d. -/
theorem rateValue_rateCode_near {k d : Nat} (h : InOctave k d) (range : k ≤ 13) :
    2 * rateValue (rateCode d) ≤ 2 * d + 2 ^ k ∧ 2 * d < 2 * rateValue (rateCode d) + 2 ^ k := by
  have unit := Nat.two_pow_pos k
  have below := Nat.div_mul_le_self (2 * d + 2 ^ k) (2 * 2 ^ k)
  have above := Nat.lt_div_mul_add (a := 2 * d + 2 ^ k) (b := 2 * 2 ^ k) (by omega)
  rw [h.rateValue_rateCode range]
  unfold mantissaUnits
  rw [Nat.mul_left_comm] at below above
  omega

/-- Codes stay within the octave of what they report, its upper end included. -/
theorem rateValue_rateCode_bounds {k d : Nat} (h : InOctave k d) (range : k ≤ 13) :
    4096 * 2 ^ k ≤ rateValue (rateCode d) ∧ rateValue (rateCode d) ≤ 8192 * 2 ^ k := by
  obtain ⟨low, high⟩ := h.mantissaUnits_bounds
  rw [h.rateValue_rateCode range]
  exact ⟨Nat.mul_le_mul_right _ low, Nat.mul_le_mul_right _ high⟩

theorem rateValue_rateCode_mono {d e : Nat} (h : d ≤ e) (range : e ≤ 33554432) :
    rateValue (rateCode d) ≤ rateValue (rateCode e) := by
  by_cases small : e < 4096
  · rwa [rateValue_rateCode_small small, rateValue_rateCode_small (h.trans_lt small)]
  have upper := inOctave_log2 (Nat.not_lt.1 small)
  have upperRange := upper.le_thirteen range
  have upperBounds := rateValue_rateCode_bounds upper upperRange
  generalize Nat.log2 e - 12 = j at upper upperRange upperBounds
  by_cases tiny : d < 4096
  · have unit := Nat.two_pow_pos j
    rw [rateValue_rateCode_small tiny]
    omega
  have lower := inOctave_log2 (Nat.not_lt.1 tiny)
  have lowerRange := lower.le_thirteen (h.trans range)
  have lowerBounds := rateValue_rateCode_bounds lower lowerRange
  generalize Nat.log2 d - 12 = k at lower lowerRange lowerBounds
  rcases Nat.lt_trichotomy k j with less | rfl | more
  · have octaves : 2 * 2 ^ k ≤ 2 ^ j := by
      rw [Nat.mul_comm, ← pow_succ]
      exact Nat.pow_le_pow_right (by decide) less
    omega
  · rw [lower.rateValue_rateCode lowerRange, upper.rateValue_rateCode upperRange]
    exact Nat.mul_le_mul_right _ (Nat.div_le_div_right (by omega))
  · have octaves : 2 * 2 ^ j ≤ 2 ^ k := by
      rw [Nat.mul_comm, ← pow_succ]
      exact Nat.pow_le_pow_right (by decide) more
    have := lower.1
    have := upper.2
    omega

/-- Settles O59: the round trip by exponent and mantissa, the error and the order by octaves. -/
theorem rateCodesReportDensity : Obligations.RateCodesReportDensity := by
  refine ⟨rateCode_rateValue, fun d => rateValue_rateCode_small, fun d large range => ?_, fun d e => rateValue_rateCode_mono⟩
  have octave := inOctave_log2 large
  exact rateValue_rateCode_near octave (octave.le_thirteen range)

end Sys2Proof.Machine

/-! PROOFS. The reset state is sound and holds the power-on values (O3). -/

namespace Sys2Proof.Machine

/-! ### The tables of the reset state, entry by entry -/

theorem reset_rct (i : Fin 64) : State.reset.signalling.rct[i] = Entry.unlearned := Vector.getElem_replicate _

theorem reset_ids (p : Fin 32) : State.reset.ringMap.ids[p] = none := Vector.getElem_replicate _

theorem reset_counters (k : Fin 18) : State.reset.counters[k] = 0#32 := Vector.getElem_replicate _

@[simp] theorem Banks.uniform_standby {α : Type} (a : α) (i : Fin 64) : (Banks.uniform a).standby[i] = a :=
  Vector.getElem_replicate _

@[simp] theorem Banks.uniform_active {α : Type} (a : α) (i : Fin 64) : (Banks.uniform a).active[i] = a :=
  Vector.getElem_replicate _

/-! ### The reset state is sound, block by block -/

theorem reset_receptionSound : ReceptionSound State.reset where
  reset := nofun
  line := fun x => by cases x <;> constructor <;> decide
  monitor := fun x => by cases x <;> constructor <;> decide

/-- No entry is learned, and the part is STANDALONE. -/
theorem reset_restorationSound : RestorationSound State.reset where
  identity := ⟨fun _ => rfl, nofun, nofun⟩
  rct := ⟨fun i _ => reset_rct i, fun i => by rw [reset_rct]; exact nofun, fun _ => reset_rct, fun i _ => reset_rct i⟩
  condition := fun x => by cases x <;> constructor <;> decide
  manual := fun _ x => by cases x <;> exact nofun
  resolver := by decide +kernel
  engine := fun x => by cases x <;> constructor <;> decide

theorem reset_tablesSound : TablesSound State.reset where
  mapSize := Nat.zero_le _
  active := by decide +kernel
  standby := nofun

theorem reset_queuesSound : QueuesSound State.reset where
  requests := fun q => by cases q <;> exact Nat.zero_le _
  occupancy := fun q => by cases q <;> exact Nat.zero_le _
  reserved := fun q => by cases q <;> rfl

/-- LOF of both sides, and no more, is present and held. -/
theorem reset_eventsSound : EventsSound State.reset where
  held := by decide +kernel
  pulses := rfl
  alert := by decide
  masks := by decide

theorem reset_profileSound : ProfileSound State.reset where
  holdOffTime := by decide
  settleTime := by decide
  wtrTime := by decide
  confirmTimeout := by decide
  responseHop := by decide

/-- No timer runs. -/
theorem reset_timingSound : TimingSound State.reset where
  swapTurn := nofun
  holdOff := fun x n => by cases x <;> exact nofun
  settle := fun x n => by cases x <;> exact nofun
  wtr := fun x n => by cases x <;> exact nofun
  confirm := fun x n => by cases x <;> exact nofun

theorem reset_sound : Sound State.reset :=
  ⟨reset_receptionSound, reset_restorationSound, reset_tablesSound, reset_queuesSound, reset_eventsSound, reset_profileSound,
    reset_timingSound⟩

/-! ### The reset state holds the power-on values -/

theorem reset_powerOn : PowerOn State.reset State.reset where
  frameCount := rfl
  receiver := fun x => by cases x <;> rfl
  buffer := fun x => by cases x <;> rfl
  holder := rfl
  monitor := fun x => by cases x <;> rfl
  condition := fun x => by cases x <;> rfl
  park := rfl
  rct := reset_rct
  own := fun x => by cases x <;> rfl
  neighbour := fun x => by cases x <;> exact ⟨rfl, rfl⟩
  resolver := rfl
  engine := fun x => by cases x <;> rfl
  mode := ⟨rfl, rfl⟩
  ringMap := ⟨rfl, rfl, reset_ids⟩
  profile := rfl
  banks := fun i => by
    simp only [State.reset, Tables.reset, Banks.uniform_standby, Banks.uniform_active, SlotRecord.unused, and_self]
  commit := ⟨rfl, rfl⟩
  squelch := rfl
  queues := fun q => by cases q <;> exact ⟨rfl, rfl⟩
  pointer := rfl
  held := by decide
  events := ⟨rfl, rfl, rfl, rfl, rfl, rfl, rfl⟩
  counters := reset_counters
  alertN := rfl
  kept := ⟨rfl, rfl, rfl, rfl⟩
  instant := rfl

/-- Settles O3, block by block. -/
theorem resetStateIsSound : Obligations.ResetStateIsSound :=
  ⟨reset_sound, reset_powerOn, rfl⟩

end Sys2Proof.Machine

/-! PROOFS. The timers within their bounds, and what the work of an event on the lines and the ring can touch. -/

namespace Sys2Proof.Machine

/-! ### Timers within their bounds (R2) -/

/-- A timer has at most `top` local frame starts left to count. -/
def Within (top : Nat) (t : Timer) : Prop :=
  ∀ n, t = some n → n ≤ top

theorem within_none (top : Nat) : Within top none := nofun

theorem within_some {top n : Nat} (h : n ≤ top) : Within top (some n) := fun _ e => Option.some.inj e ▸ h

theorem Within.countDown {top : Nat} {t : Timer} (h : Within top t) : Within top (countDown t) := by
  cases t with
  | none => exact within_none top
  | some n => exact within_some ((Nat.sub_le n 1).trans (h n rfl))

/-- A side's Span Monitor timers, WTR timer and confirm timer are within the longest durations of the Profile. -/
def Monitor.Timed (m : Monitor) : Prop := Within 100000 m.holdOffTimer ∧ Within 100000 m.settle
def ConditionSide.Timed (c : ConditionSide) : Prop := Within 36000000 c.wtr
def Engine.Timed (e : Engine) : Prop := Within 50000 e.confirm

/-- Every timer is within the longest duration that its Profile field allows (R2, R26, R39, R90, R121). -/
structure TimersBounded (s : State) : Prop where
  monitor : ∀ x, (s.monitor.get x).Timed
  condition : ∀ x, (s.condition.get x).Timed
  engine : ∀ x, (s.engine.get x).Timed

theorem TimersBounded.congr {s t : State} (h : TimersBounded s) (monitor : t.monitor = s.monitor)
    (condition : t.condition = s.condition) (engine : t.engine = s.engine) : TimersBounded t :=
  ⟨monitor ▸ h.monitor, condition ▸ h.condition, engine ▸ h.engine⟩

theorem timingSound_iff (s : State) :
    TimingSound s ↔
      (s.instant.begun = false → s.instant.swapTurn = true → s.tables.commit.isSome) ∧ TimersBounded s :=
  ⟨fun h => ⟨h.swapTurn, fun x => ⟨h.holdOff x, h.settle x⟩, h.wtr, h.confirm⟩,
    fun ⟨turn, h⟩ => ⟨turn, fun x => (h.monitor x).1, fun x => (h.monitor x).2, h.condition, h.engine⟩⟩

/-- What holds of both sides still does when one side takes a value of which it holds. -/
theorem Sides.forall_set {α : Type} {P : α → Prop} {v : Sides α} (h : ∀ x, P (v.get x)) (x : Side) {a : α} (ha : P a) :
    ∀ y, P ((v.set x a).get y) := by
  intro y
  rw [Sides.get_set]
  split
  · exact ha
  · exact h y

theorem TimersBounded.setMonitor {s : State} (h : TimersBounded s) (x : Side) {m : Monitor} (timed : m.Timed) :
    TimersBounded (s.setMonitor (s.monitor.set x m)) :=
  ⟨Sides.forall_set h.monitor x timed, h.condition, h.engine⟩

theorem TimersBounded.updateCondition {s : State} (h : TimersBounded s) (x : Side) {f : ConditionSide → ConditionSide}
    (timed : (f (s.condition.get x)).Timed) : TimersBounded (s.updateCondition x f) :=
  ⟨h.monitor, Sides.forall_set h.condition x timed, h.engine⟩

theorem TimersBounded.updateEngine {s : State} (h : TimersBounded s) (x : Side) {f : Engine → Engine}
    (timed : (f (s.engine.get x)).Timed) : TimersBounded (s.updateEngine x f) :=
  ⟨h.monitor, h.condition, Sides.forall_set h.engine x timed⟩

/-! ### What the work on the lines and the ring can touch -/

/-- t differs from s at most in what the Line Receivers, the alignment buffers, the Span Monitors, the Condition Unit, the
Signalling Unit, the Resolver and the Loop Engines hold, in counters, none of which falls, and in the pulses of the event being
taken; its timers are within their bounds where those of s are. -/
structure LineWork (s t : State) : Prop where
  frame : t = { s with
    losPin := t.losPin, receiver := t.receiver, buffer := t.buffer, monitor := t.monitor, condition := t.condition,
    park := t.park, signalling := t.signalling, resolver := t.resolver, engine := t.engine, counters := t.counters,
    events := { s.events with pulses := t.events.pulses } }
  counters : ∀ k, (s.count k).toNat ≤ (t.count k).toNat
  timers : ProfileSound s → TimersBounded s → TimersBounded t

/-- Such work that merges no vector, so that no entry of the table moves but the own ones (R62, R81). -/
structure RingWork (s t : State) : Prop extends LineWork s t where
  rct : t.signalling.rct = s.signalling.rct

theorem ProfileSound.congr {s t : State} (h : ProfileSound s) (same : t.profile = s.profile) : ProfileSound t := by
  obtain ⟨holdOff, settle, wtr, confirm, hop⟩ := h
  exact ⟨same ▸ holdOff, same ▸ settle, same ▸ wtr, same ▸ confirm, same ▸ hop⟩

theorem LineWork.trans {s t u : State} (h : LineWork s t) (k : LineWork t u) : LineWork s u where
  frame := by conv_lhs => rw [k.frame, h.frame]
  counters := fun c => (h.counters c).trans (k.counters c)
  timers := fun profile timed => k.timers (profile.congr (by rw [h.frame])) (h.timers profile timed)

theorem RingWork.refl (s : State) : RingWork s s := ⟨⟨rfl, fun _ => le_rfl, fun _ h => h⟩, rfl⟩

theorem RingWork.trans {s t u : State} (h : RingWork s t) (k : RingWork t u) : RingWork s u :=
  ⟨h.toLineWork.trans k.toLineWork, k.rct.trans h.rct⟩

/-- Work that moves no counter. -/
theorem LineWork.of_frame {s t : State} (frame : t = { s with
      losPin := t.losPin, receiver := t.receiver, buffer := t.buffer, monitor := t.monitor, condition := t.condition,
      park := t.park, signalling := t.signalling, resolver := t.resolver, engine := t.engine
      events := { s.events with pulses := t.events.pulses } })
    (timers : ProfileSound s → TimersBounded s → TimersBounded t) : LineWork s t where
  frame := by rw [frame]
  counters := fun k => by
    unfold State.count
    rw [frame]
  timers := timers

theorem RingWork.of_frame {s t : State} (frame : t = { s with
      losPin := t.losPin, receiver := t.receiver, buffer := t.buffer, monitor := t.monitor, condition := t.condition,
      park := t.park, signalling := { t.signalling with rct := s.signalling.rct }, resolver := t.resolver
      engine := t.engine, events := { s.events with pulses := t.events.pulses } })
    (timers : ProfileSound s → TimersBounded s → TimersBounded t) : RingWork s t :=
  ⟨.of_frame (by rw [frame]) timers, by rw [frame]⟩

/-- Work that also leaves the timers alone. -/
theorem RingWork.of_untimed {s t : State} (frame : t = { s with
      losPin := t.losPin, receiver := t.receiver, buffer := t.buffer, park := t.park
      signalling := { t.signalling with rct := s.signalling.rct }, resolver := t.resolver
      events := { s.events with pulses := t.events.pulses } }) : RingWork s t :=
  .of_frame (by rw [frame]) fun _ h => h.congr (by rw [frame]) (by rw [frame]) (by rw [frame])

theorem setMonitor_ringWork (s : State) (x : Side) (m : Monitor) (h : ProfileSound s → (s.monitor.get x).Timed → m.Timed) :
    RingWork s (s.setMonitor (s.monitor.set x m)) :=
  .of_frame rfl fun profile timed => timed.setMonitor x (h profile (timed.monitor x))

theorem bump_ringWork (s : State) (c : Counter) (n : Nat) : RingWork s (s.bump c n) where
  frame := rfl
  counters := fun k => by
    rw [State.count_bump]
    split
    next h => rw [h]; exact le_advanced _ n
    next => exact le_rfl
  timers := fun _ h => h.congr rfl rfl rfl
  rct := rfl

theorem raise_ringWork (s : State) (p : Pulse) : RingWork s (s.raise p) := .of_untimed rfl

/-! ### The Condition Unit, the Resolver and the engines (R86 to R122) -/

/-- Work on the conditions alone that keeps the detection. -/
theorem DetectionKept.ringWork {s t : State} (kept : DetectionKept s t) (frame : RestorationFrame s t)
    (engine : t.engine = s.engine) : RingWork s t :=
  .of_frame (by rw [frame]) fun _ h => by
    refine ⟨by rw [frame]; exact h.monitor, fun x => ?_, by rw [engine]; exact h.engine⟩
    unfold ConditionSide.Timed
    rw [kept.wtr]
    exact h.condition x

theorem formAnnounced_ringWork (s : State) : RingWork s (formAnnounced s) :=
  (formAnnounced_detectionKept s).ringWork (formAnnounced_frame s) rfl

theorem dropManual_ringWork (s : State) : RingWork s (dropManual s) :=
  (dropManual_detectionKept s).ringWork (dropManual_frame s) (by unfold dropManual; split <;> rfl)

theorem recompute_ringWork (s : State) : RingWork s (recompute s) := .of_untimed rfl

/-- A change of the loop target leaves the confirm timer, starts it or stops it (R112, R115, R116, R120). -/
theorem Engine.Timed.retarget {e : Engine} (h : e.Timed) {timer : Timer} (start : Within 50000 timer) (old new : Bool) :
    (e.retarget timer old new).Timed := by
  unfold Engine.retarget
  split
  · exact h
  · split
    · exact start
    · exact start
    · exact within_none _
    · exact start
    · exact h

/-- A partner test leaves the confirm timer or stops it (R113, R117, R118). -/
theorem Engine.Timed.partnerTest {e : Engine} (h : e.Timed) (partner : Action) : (e.partnerTest partner).Timed := by
  unfold Engine.partnerTest
  split
  · exact h
  · split
    · exact within_none _
    · exact h
  · split <;> exact h
  · split
    · exact within_none _
    · exact h

theorem ProfileSound.confirmTimer {s : State} (h : ProfileSound s) : Within 50000 (startUnits s.profile.confirmTimeout) :=
  within_some (Nat.mul_le_mul_left 100 h.confirmTimeout.2)

theorem ProfileSound.wtrTimer {s : State} (h : ProfileSound s) : Within 36000000 (startSeconds s.profile.wtrTime) :=
  within_some (Nat.mul_le_mul_left 10000 h.wtrTime.2)

theorem ProfileSound.settleTimer {s : State} (h : ProfileSound s) : Within 100000 (startUnits s.profile.settleTime) :=
  within_some (Nat.mul_le_mul_left 100 h.settleTime)

theorem ProfileSound.holdOffTimer {s : State} (h : ProfileSound s) : Within 100000 (startUnits s.profile.holdOffTime) :=
  within_some (Nat.mul_le_mul_left 100 h.holdOffTime)

theorem writeAction_ringWork (s : State) (x : Side) : RingWork s (writeAction s x) := .of_untimed rfl

theorem engineNotice_ringWork (x : Side) (old : Bool) (s : State) : RingWork s (engineNotice x old s) :=
  RingWork.trans
    (.of_frame rfl fun profile h =>
      h.updateEngine x (((h.engine x).retarget profile.confirmTimer old (s.resolver.target.get x)).partnerTest _))
    (writeAction_ringWork _ x)

theorem noticePass_ringWork (s : State) : RingWork s (noticePass s) :=
  (((dropManual_ringWork s).trans (recompute_ringWork _)).trans (engineNotice_ringWork .east _ _)).trans
    (engineNotice_ringWork .west _ _)

theorem tableNotice_ringWork (s : State) : RingWork s (tableNotice s) := by
  unfold tableNotice
  dsimp only
  split
  · exact noticePass_ringWork s
  · exact (noticePass_ringWork s).trans (noticePass_ringWork _)

theorem announce_ringWork (s : State) : RingWork s (announce s) := by
  unfold announce
  dsimp only
  split
  · exact (formAnnounced_ringWork s).trans (tableNotice_ringWork _)
  · exact formAnnounced_ringWork s

/-- A change of one side's conditions, announced. -/
theorem announce_update_ringWork (s : State) (x : Side) (f : ConditionSide → ConditionSide)
    (h : ProfileSound s → (s.condition.get x).Timed → (f (s.condition.get x)).Timed) :
    RingWork s (announce (s.updateCondition x f)) :=
  RingWork.trans (.of_frame rfl fun profile timed => timed.updateCondition x (h profile (timed.condition x)))
    (announce_ringWork _)

/-- A report leaves the WTR timer, starts it or stops it (R87 to R90). -/
theorem ConditionSide.Timed.report {c : ConditionSide} (h : c.Timed) {timer : Timer} (start : Within 36000000 timer)
    (quality : Quality) (r : Report) : (c.report quality timer r).Timed := by
  unfold ConditionSide.report
  split
  · split
    · exact h
    · exact within_none _
  · split
    · split
      · exact within_none _
      · exact start
      · exact h
    · exact h
  · split
    · exact within_none _
    · exact h
  · split
    · exact start
    · exact h
  · exact h

theorem takeReport_ringWork (x : Side) (s : State) (r : Report) : RingWork s (takeReport x s r) :=
  announce_update_ringWork s x _ fun profile h => h.report profile.wtrTimer _ r

theorem takeReports_ringWork (x : Side) (rs : List Report) (s : State) : RingWork s (rs.foldl (takeReport x) s) := by
  induction rs generalizing s with
  | nil => exact .refl s
  | cons r rs ih => exact (takeReport_ringWork x s r).trans (ih _)

/-! ### The Span Monitors (R20 to R41) -/

theorem Monitor.Timed.startHoldOff {m : Monitor} (h : m.Timed) {time : Nat} (start : Within 100000 (startUnits time)) :
    (m.startHoldOff time).1.Timed := by
  unfold Monitor.startHoldOff
  split
  · exact ⟨within_none _, h.2⟩
  · exact ⟨start, h.2⟩

theorem Monitor.Timed.endHoldOff {m : Monitor} (h : m.Timed) : m.endHoldOff.Timed := ⟨within_none _, h.2⟩

theorem Monitor.Timed.formFlag {m : Monitor} (h : m.Timed) (joined : Bool) {time : Nat}
    (start : Within 100000 (startUnits time)) : (m.formFlag joined time).1.Timed := by
  have flagged : ({ m with flag := m.defects.present } : Monitor).Timed := h
  unfold Monitor.formFlag
  dsimp only
  split
  · split
    · exact flagged.startHoldOff start
    · exact h
  · exact flagged.endHoldOff
  · exact h

theorem closeMonitor_ringWork (x : Side) (changes : List Report) (s : State) : RingWork s (closeMonitor x changes s) :=
  (setMonitor_ringWork s x _ fun profile h => h.formFlag s.joined profile.holdOffTimer).trans (takeReports_ringWork x _ _)

/-- A Span Monitor event: the side's monitor takes a value, then the event ends. -/
theorem closeMonitor_set_ringWork (x : Side) (changes : List Report) (s : State) (m : Monitor)
    (h : ProfileSound s → (s.monitor.get x).Timed → m.Timed) :
    RingWork s (closeMonitor x changes (s.setMonitor (s.monitor.set x m))) :=
  (setMonitor_ringWork s x m h).trans (closeMonitor_ringWork x changes _)

theorem monitorEntersAligned_ringWork (x : Side) (s : State) : RingWork s (monitorEntersAligned x s) := by
  refine closeMonitor_set_ringWork x _ s _ fun profile h => ?_
  split
  · exact ⟨h.1, within_none _⟩
  · exact ⟨h.1, profile.settleTimer⟩

theorem depart_ringWork (x : Side) (s : State) : RingWork s (depart x s) :=
  ((RingWork.of_untimed rfl).trans
    (setMonitor_ringWork
      ((s.updateReceiver x fun _ => ⟨.search, 0, none⟩).updateBuffer x fun _ => ⟨.flushed, [], none⟩) x
      (s.monitor.get x).depart fun _ h => ⟨h.1, within_none _⟩)).trans (bump_ringWork _ _ 1)

theorem Monitor.takeOutcome_timed (m : Monitor) (o : VectorOutcome) (h : m.Timed) : (m.takeOutcome o).Timed := by
  cases o <;> exact h

theorem Monitor.takeParity_timed (m : Monitor) (p : Profile) (x : Side) (v : Nat) (h : m.Timed) :
    (m.takeParity p x v).Timed := by
  unfold Monitor.takeParity
  dsimp only
  split <;> exact h

theorem countParity_ringWork (s : State) (x : Side) (v : Nat) : RingWork s (countParity s x v) :=
  (bump_ringWork s _ _).trans (bump_ringWork _ _ _)

theorem monitorArrival_ringWork (x : Side) (outcome : VectorOutcome) (parity : Option Nat) (s : State) :
    RingWork s (monitorArrival x outcome parity s) := by
  unfold monitorArrival
  dsimp only
  split
  next v =>
    exact (countParity_ringWork s x v).trans
      (closeMonitor_set_ringWork x _ (countParity s x v) _ fun _ h =>
        Monitor.takeParity_timed _ _ x v (Monitor.takeOutcome_timed _ _ h))
  next => exact closeMonitor_set_ringWork x _ s _ fun _ h => Monitor.takeOutcome_timed _ _ h

theorem joinHoldOff_ringWork (x : Side) (s : State) : RingWork s (joinHoldOff x s) := by
  unfold joinHoldOff
  dsimp only
  split
  · exact (setMonitor_ringWork s x _ fun profile h => h.startHoldOff profile.holdOffTimer).trans (takeReports_ringWork x _ _)
  · exact .refl s

/-! ### Frames of a line and the merge (R11 to R17, R68 to R79) -/

theorem slip_ringWork (x : Side) (s : State) : RingWork s (slip x s) :=
  (bump_ringWork s _ 1).trans (raise_ringWork _ _)

theorem bufferArrival_ringWork (x : Side) (f : LineSlots) (s : State) : RingWork s (bufferArrival x f s) := by
  unfold bufferArrival
  dsimp only
  split
  · exact .refl s
  · exact .of_untimed rfl
  · split
    · exact .of_untimed rfl
    · exact RingWork.trans (.of_untimed rfl) (slip_ringWork x _)

theorem readBuffer_ringWork (x : Side) (s : State) : RingWork s (readBuffer x s) := by
  unfold readBuffer
  dsimp only
  split
  · exact RingWork.trans (.of_untimed rfl) (slip_ringWork x _)
  · exact .of_untimed rfl

theorem noteVector_ringWork (s : State) (x : Side) (v : SigVector) : RingWork s (noteVector s x v) := by
  unfold noteVector
  split
  · exact .of_untimed rfl
  · exact bump_ringWork s _ 1

theorem mergeEntries_lineWork (start : Sides OwnEntry) (s : State) (x : Side) (v : SigVector) (p : Nat) :
    LineWork s (mergeEntries start s x v p) := by
  obtain ⟨rct, own, k, eq⟩ := mergeEntries_frame start s x v p
  rw [eq]
  refine LineWork.trans ?_ (bump_ringWork _ _ k).toLineWork
  exact .of_frame rfl fun _ h => h.congr rfl rfl rfl

theorem arrivalMerge_lineWork (start : Sides OwnEntry) (x : Side) (v : SigVector) (qualifies : Bool) (s : State) :
    LineWork s (arrivalMerge start x v qualifies s) := by
  unfold arrivalMerge mergeVector
  split
  · split
    · dsimp only
      split
      · exact (mergeEntries_lineWork start s x v _).trans (tableNotice_ringWork _).toLineWork
      · exact mergeEntries_lineWork start s x v _
    · exact (RingWork.refl s).toLineWork
  · exact (RingWork.refl s).toLineWork

/-- All of a line frame's arrival but the routing of its cell. -/
def arrivalWork (x : Side) (f : LineFrame) (order : ArrivalOrder) (s : State) : State :=
  let merge := arrivalMerge s.signalling.own x f.vector (mergeable s x f.vector)
  let monitor := monitorArrival x (vectorOutcome s x f.vector) (parityResult x f s)
  let s1 := (bufferArrival x f.slots s).updateReceiver x fun r => { r with heldParity := some (laneParity f.slots) }
  let s2 := noteVector s1 x f.vector
  match order with
  | .mergeFirst => monitor (merge s2)
  | .monitorFirst => merge (monitor s2)

theorem frameArrival_eq (x : Side) (f : LineFrame) (order : ArrivalOrder) (s : State) :
    frameArrival x f order s = routeManagement (routeLineCell x) f.management (arrivalWork x f order s) := by
  cases order <;> rfl

theorem arrivalWork_lineWork (x : Side) (f : LineFrame) (order : ArrivalOrder) (s : State) :
    LineWork s (arrivalWork x f order s) := by
  have taken : RingWork s (noteVector ((bufferArrival x f.slots s).updateReceiver x fun r =>
      { r with heldParity := some (laneParity f.slots) }) x f.vector) :=
    ((bufferArrival_ringWork x f.slots s).trans (.of_untimed rfl)).trans (noteVector_ringWork _ x f.vector)
  cases order with
  | mergeFirst =>
    exact (taken.toLineWork.trans (arrivalMerge_lineWork _ x _ _ _)).trans (monitorArrival_ringWork x _ _ _).toLineWork
  | monitorFirst =>
    exact (taken.trans (monitorArrival_ringWork x _ _ _)).toLineWork.trans (arrivalMerge_lineWork _ x _ _ _)

/-! ### The work of the pins, the receivers and the expiries -/

theorem receiverLoses_ringWork (x : Side) (s : State) : RingWork s (receiverLoses x s) := by
  unfold receiverLoses
  split
  · exact depart_ringWork x s
  · exact .of_untimed rfl
  · exact .refl s

theorem losRises_ringWork (x : Side) (s : State) : RingWork s (losRises x s) :=
  ((RingWork.of_untimed rfl).trans (receiverLoses_ringWork x (s.setLosPin (s.losPin.set x true)))).trans
    (closeMonitor_set_ringWork x [] _ _ fun _ h => h)

theorem losFalls_ringWork (x : Side) (s : State) : RingWork s (losFalls x s) :=
  RingWork.trans (.of_untimed rfl) (closeMonitor_set_ringWork x [] (s.setLosPin (s.losPin.set x false)) _ fun _ h => h)

theorem enterAligned_ringWork (x : Side) (s : State) : RingWork s (enterAligned x s) :=
  RingWork.trans (.of_untimed rfl) (monitorEntersAligned_ringWork x _)

theorem presyncWord_ringWork (x : Side) (word : Word) (s : State) :
    RingWork s (if goodWord word then enterAligned x s else s.updateReceiver x fun r => { r with align := .search }) := by
  split
  · exact enterAligned_ringWork x s
  · exact .of_untimed rfl

theorem alignedWord_ringWork (x : Side) (word : Word) (s : State) : RingWork s (alignedWord x word s) := by
  unfold alignedWord
  split
  · exact .of_untimed rfl
  · split
    · exact .of_untimed rfl
    · exact (depart_ringWork x s).trans (closeMonitor_ringWork x [] _)

theorem holdOffExpires_ringWork (x : Side) (s : State) : RingWork s (holdOffExpires x s) :=
  (setMonitor_ringWork s x { s.monitor.get x with holdOff := .standing, holdOffTimer := none } fun _ h =>
    ⟨within_none _, h.2⟩).trans (takeReport_ringWork x _ _)

theorem settleExpires_ringWork (x : Side) (s : State) : RingWork s (settleExpires x s) :=
  closeMonitor_set_ringWork x _ s _ fun _ h => ⟨h.1, within_none _⟩

theorem wtrExpires_ringWork (x : Side) (s : State) : RingWork s (wtrExpires x s) :=
  announce_update_ringWork s x _ fun _ _ => within_none _

theorem Engine.Timed.expire {e : Engine} (h : e.Timed) : e.expire.Timed := by
  unfold Engine.expire
  split
  · exact within_none _
  · exact within_none _
  · exact h

theorem confirmExpires_ringWork (x : Side) (s : State) : RingWork s (confirmExpires x s) := by
  have acted : RingWork s (writeAction (s.updateEngine x Engine.expire) x) :=
    RingWork.trans (.of_frame rfl fun _ h => h.updateEngine x (h.engine x).expire) (writeAction_ringWork _ x)
  unfold confirmExpires
  dsimp only
  split
  · exact acted.trans (tableNotice_ringWork _)
  · exact acted

/-! ### The work of the operator commands -/

theorem setCommand_ringWork (x : Side) (k : SideCommand) (s : State) : RingWork s (setCommand x k s) :=
  announce_update_ringWork s x _ fun _ h => h

theorem setParkCommand_ringWork (v : Bool) (s : State) : RingWork s (setParkCommand v s) :=
  (RingWork.of_untimed (t := s.setPark v) rfl).trans (announce_ringWork _)

theorem ConditionSide.Timed.clearCommand {c : ConditionSide} (h : c.Timed) : c.clearCommand.Timed := by
  unfold ConditionSide.clearCommand
  dsimp only
  split
  · exact within_none _
  · exact h

theorem clearSide_ringWork (x : Side) (s : State) : RingWork s (clearSide x s) :=
  announce_update_ringWork s x _ fun _ h => h.clearCommand

end Sys2Proof.Machine

/-! PROOFS. Every step keeps the connection tables, the queues, the Profile and the timers within their bounds (O6). -/

namespace Sys2Proof.Machine

/-! ### The stores through an event -/

/-- The queues while an Agent turn keeps a place reserved at the port `turn`, or outside a turn (R154, R155, R157). -/
structure QueuesHold (turn : Option Port) (s : State) : Prop where
  requests : ∀ q, (s.requests.get q).length ≤ 4
  occupancy : ∀ q, (s.transmit.get q).occupancy ≤ 8
  reserved : ∀ q, (s.transmit.get q).reserved = s.reservedPlaces q + if turn = some q then 1 else 0

theorem queuesSound_iff (s : State) : QueuesSound s ↔ QueuesHold none s :=
  ⟨fun h => ⟨h.requests, h.occupancy, h.reserved⟩, fun h => ⟨h.requests, h.occupancy, h.reserved⟩⟩

/-- From s to t the tables, the Profile, the timers and the queues keep their bounds; `before` and `after` are the port at which
an Agent turn keeps a place reserved in s and in t. -/
structure StoresKept (before after : Option Port) (s t : State) : Prop where
  tables : TablesSound s → TablesSound t
  queues : QueuesHold before s → QueuesHold after t
  profile : ProfileSound s → ProfileSound t
  timing : ProfileSound s → TimingSound s → TimingSound t

section
variable {turn before between after : Option Port} {s t u : State} {q : Port}

theorem StoresKept.refl (turn : Option Port) (s : State) : StoresKept turn turn s s := ⟨id, id, id, fun _ => id⟩

theorem StoresKept.trans (h : StoresKept before between s t) (k : StoresKept between after t u) : StoresKept before after s u :=
  ⟨k.tables ∘ h.tables, k.queues ∘ h.queues, k.profile ∘ h.profile, fun p w => k.timing (h.profile p) (h.timing p w)⟩

theorem StoresKept.guarded {p : Prop} [Decidable p] (h : StoresKept turn turn s t) :
    StoresKept turn turn s (if p then t else s) := by
  split
  · exact h
  · exact .refl turn s

theorem TablesSound.congr (h : TablesSound s) (ringMap : t.ringMap = s.ringMap) (tables : t.tables = s.tables) :
    TablesSound t :=
  ⟨ringMap ▸ h.mapSize, tables ▸ h.active, tables ▸ h.standby⟩

theorem QueuesHold.congr (h : QueuesHold turn s) (requests : t.requests = s.requests) (transmit : t.transmit = s.transmit)
    (commit : t.tables.commit = s.tables.commit) : QueuesHold turn t :=
  ⟨requests ▸ h.requests, transmit ▸ h.occupancy, by
    unfold State.reservedPlaces
    rw [transmit, commit]
    exact h.reserved⟩

theorem TimingSound.congr (h : TimingSound s) (instant : t.instant = s.instant) (commit : t.tables.commit = s.tables.commit)
    (timers : TimersBounded t) : TimingSound t :=
  (timingSound_iff t).2 ⟨by rw [instant, commit]; exact h.swapTurn, timers⟩

/-- The timers and the local frame start at hand, read where they stand. -/
theorem TimingSound.unmoved (h : TimingSound s) (instant : t.instant = s.instant) (commit : t.tables.commit = s.tables.commit)
    (monitor : t.monitor = s.monitor) (condition : t.condition = s.condition) (engine : t.engine = s.engine) : TimingSound t :=
  h.congr instant commit (((timingSound_iff s).1 h).2.congr monitor condition engine)

/-- Work that touches none of the stores, and the timers within their bounds. -/
theorem StoresKept.of_timers (turn : Option Port) (frame : t = { t with
      ringMap := s.ringMap, tables := s.tables, profile := s.profile, requests := s.requests, transmit := s.transmit
      instant := s.instant })
    (timers : ProfileSound s → TimersBounded s → TimersBounded t) : StoresKept turn turn s t where
  tables := fun h => h.congr (by rw [frame]) (by rw [frame])
  queues := fun h => h.congr (by rw [frame]) (by rw [frame]) (by rw [frame])
  profile := fun h => h.congr (by rw [frame])
  timing := fun p h => h.congr (by rw [frame]) (by rw [frame]) (timers p ((timingSound_iff s).1 h).2)

/-- Work that touches neither the stores nor the timers. -/
theorem StoresKept.of_elsewhere (turn : Option Port) (frame : t = { t with
      ringMap := s.ringMap, tables := s.tables, profile := s.profile, requests := s.requests, transmit := s.transmit
      instant := s.instant, monitor := s.monitor, condition := s.condition, engine := s.engine }) :
    StoresKept turn turn s t :=
  .of_timers turn (by rw [frame]) fun _ h => h.congr (by rw [frame]) (by rw [frame]) (by rw [frame])

theorem LineWork.storesKept (h : LineWork s t) (turn : Option Port) : StoresKept turn turn s t :=
  .of_timers turn (by rw [h.frame]) h.timers

/-! ### The queues (R153 to R155, R157, R171) -/

/-- Work on the queues alone. -/
theorem StoresKept.of_queues (frame : t = { s with requests := t.requests, transmit := t.transmit, events := t.events })
    (queues : QueuesHold before s → QueuesHold after t) : StoresKept before after s t where
  tables := fun h => h.congr (by rw [frame]) (by rw [frame])
  queues := queues
  profile := fun h => h.congr (by rw [frame])
  timing := fun _ h =>
    h.unmoved (by rw [frame]) (by rw [frame]) (by rw [frame]) (by rw [frame]) (by rw [frame])

/-- One transmit queue takes a value that keeps to its capacity and to what is reserved in it. -/
theorem QueuesHold.setTransmit (h : QueuesHold turn s) (q : Port) {v : TransmitQueue} (occupancy : v.occupancy ≤ 8)
    (reserved : v.reserved = (s.transmit.get q).reserved) : QueuesHold turn (s.setTransmit (s.transmit.set q v)) where
  requests := h.requests
  occupancy := fun r => by
    rw [State.setTransmit_transmit, Ports.get_set]
    split
    · exact occupancy
    · exact h.occupancy r
  reserved := fun r => by
    rw [State.setTransmit_transmit, Ports.get_set]
    split
    next same => rw [reserved, ← same]; exact h.reserved r
    next => exact h.reserved r

theorem TransmitQueue.hasPlace_iff (t : TransmitQueue) : t.hasPlace = true ↔ t.occupancy < 8 := decide_eq_true_iff

@[simp] theorem TransmitQueue.occupancy_push (t : TransmitQueue) (c : Cell) : (t.push c).occupancy = t.occupancy + 1 := by
  simp only [TransmitQueue.occupancy, TransmitQueue.push, List.length_append, List.length_singleton]
  omega

theorem TransmitQueue.occupancy_pop_le (t : TransmitQueue) : t.pop.occupancy ≤ t.occupancy := by
  simp only [TransmitQueue.occupancy, TransmitQueue.pop, List.length_tail]
  omega

@[simp] theorem TransmitQueue.occupancy_reserve (t : TransmitQueue) : t.reserve.occupancy = t.occupancy + 1 := by
  simp only [TransmitQueue.occupancy, TransmitQueue.reserve]
  omega

/-- A response fulfils its reservation, so the occupancy stands (R155). -/
theorem TransmitQueue.occupancy_fulfil {t : TransmitQueue} (h : 0 < t.reserved) (c : Cell) :
    (t.fulfil c).occupancy = t.occupancy := by
  simp only [TransmitQueue.occupancy, TransmitQueue.fulfil, List.length_append, List.length_singleton]
  omega

theorem QueuesHold.push (h : QueuesHold turn s) {q : Port} (place : (s.transmit.get q).hasPlace = true) (c : Cell) :
    QueuesHold turn (s.updateTransmit q (·.push c)) :=
  h.setTransmit q (by rw [TransmitQueue.occupancy_push]; exact (TransmitQueue.hasPlace_iff _).1 place) rfl

theorem QueuesHold.pop (h : QueuesHold turn s) (q : Port) : QueuesHold turn (s.updateTransmit q TransmitQueue.pop) :=
  h.setTransmit q ((TransmitQueue.occupancy_pop_le _).trans (h.occupancy q)) rfl

theorem writeNotice_storesKept (turn : Option Port) (place : noticeHasPlace s = true) :
    StoresKept turn turn s (writeNotice s) :=
  .of_queues rfl fun h => (h.push place (noticeCell s)).congr rfl rfl rfl

theorem promptNotice_storesKept (turn : Option Port) (s : State) : StoresKept turn turn s (promptNotice s) := by
  unfold promptNotice
  split
  · exact .refl turn s
  · split
    next place => exact writeNotice_storesKept turn place
    next => exact .of_elsewhere turn rfl

theorem observe_storesKept (turn : Option Port) (s : State) : StoresKept turn turn s (observe s) := by
  have latching : StoresKept turn turn s (latched s) := .of_elsewhere turn rfl
  rw [observe_eq]
  split
  · exact latching.trans (.of_elsewhere turn rfl)
  · exact (latching.trans (promptNotice_storesKept turn _)).trans (.of_elsewhere turn rfl)

/-- The end of an event keeps the bounds that its work keeps. -/
theorem StoresKept.event {f : State → State} (h : StoresKept before after s (f s)) :
    StoresKept before after s (event f s) :=
  (h.trans (.of_elsewhere after rfl)).trans (observe_storesKept after _)

theorem StoresKept.readClearEvent {f : State → State} (h : StoresKept before after s (f s)) :
    StoresKept before after s (readClearEvent f s) :=
  h.trans (.of_elsewhere after rfl)

theorem RingWork.event_storesKept {f : State → State} (h : RingWork s (f s)) : StoresKept none none s (event f s) :=
  (h.storesKept none).event

theorem sendAttempt_storesKept (turn : Option Port) (s : State) : StoresKept turn turn s (sendAttempt s) := by
  unfold sendAttempt
  split
  next place => exact writeNotice_storesKept turn place
  next => exact .of_elsewhere turn rfl

/-! ### The Cell Router (R150 to R155) -/

theorem bump_storesKept (turn : Option Port) (s : State) (c : Counter) (n : Nat) : StoresKept turn turn s (s.bump c n) :=
  (bump_ringWork s c n).storesKept turn

theorem transitDrop_storesKept (turn : Option Port) (s : State) : StoresKept turn turn s (transitDrop s) :=
  .of_elsewhere turn rfl

theorem queueCell_storesKept (turn : Option Port) (q : Port) (c : Cell) (s : State) :
    StoresKept turn turn s (queueCell q c s) := by
  unfold queueCell
  split
  next place => exact .of_queues rfl fun h => h.push place c
  next => exact transitDrop_storesKept turn s

theorem queueRequest_storesKept (turn : Option Port) (q : Port) (c : Cell) (s : State) :
    StoresKept turn turn s (queueRequest q c s) := by
  unfold queueRequest
  split
  next place =>
    refine .of_queues rfl fun h => ⟨fun r => ?_, h.occupancy, h.reserved⟩
    rw [State.setRequests_requests, Ports.update, Ports.get_set]
    split
    · rw [List.length_append]
      exact place
    · exact h.requests r
  next => exact .of_elsewhere turn rfl

/-- What the Cell Router can do with a cell from a line: count it, or queue or drop it, or let it go (R151). -/
theorem routeLineCell_induction {P : State → Prop} (x : Side) (c : Cell) (s : State) (gone : P s)
    (counted : ∀ k, P (s.bump k 1)) (dropped : P (transitDrop s)) (requested : ∀ q c, P (queueRequest q c s))
    (queued : ∀ q c, P (queueCell q c s)) : P (routeLineCell x c s) := by
  unfold routeLineCell
  split
  · exact counted _
  split
  · exact gone
  split
  · exact gone
  split
  · split
    · exact requested _ c
    · exact queued _ c
  split
  · exact dropped
  · exact queued _ _

/-- And with one from the tributary port (R152). -/
theorem routeTributaryCell_induction {P : State → Prop} (c : Cell) (s : State) (gone : P s) (counted : ∀ k, P (s.bump k 1))
    (requested : ∀ q c, P (queueRequest q c s)) (queued : ∀ q c, P (queueCell q c s)) : P (routeTributaryCell c s) := by
  unfold routeTributaryCell
  split
  · exact counted _
  split
  · split
    · exact requested _ c
    · exact gone
  split
  · split
    · exact gone
    · exact queued _ c
  · split
    · exact gone
    · exact queued _ c
  · exact gone

theorem routeLineCell_storesKept (turn : Option Port) (x : Side) (c : Cell) (s : State) :
    StoresKept turn turn s (routeLineCell x c s) :=
  routeLineCell_induction x c s (.refl turn s) (fun k => bump_storesKept turn s k 1) (transitDrop_storesKept turn s)
    (fun q c => queueRequest_storesKept turn q c s) fun q c => queueCell_storesKept turn q c s

theorem routeTributaryCell_storesKept (turn : Option Port) (c : Cell) (s : State) :
    StoresKept turn turn s (routeTributaryCell c s) :=
  routeTributaryCell_induction c s (.refl turn s) (fun k => bump_storesKept turn s k 1)
    (fun q c => queueRequest_storesKept turn q c s) fun q c => queueCell_storesKept turn q c s

theorem routeManagement_storesKept {route : Cell → State → State} (turn : Option Port) (m : Management) (s : State)
    (h : ∀ c s, StoresKept turn turn s (route c s)) : StoresKept turn turn s (routeManagement route m s) :=
  (h m.cell s).guarded

theorem frameArrival_storesKept (turn : Option Port) (x : Side) (f : LineFrame) (order : ArrivalOrder) (s : State) :
    StoresKept turn turn s (frameArrival x f order s) := by
  rw [frameArrival_eq]
  exact ((arrivalWork_lineWork x f order s).storesKept turn).trans
    (routeManagement_storesKept turn _ _ (routeLineCell_storesKept turn x))

theorem tributaryArrival_storesKept (turn : Option Port) (f : TributaryFrame) (s : State) :
    StoresKept turn turn s (tributaryArrival f s) := by
  unfold tributaryArrival
  split
  · exact StoresKept.trans (.of_elsewhere turn rfl)
      (routeManagement_storesKept turn _ (s.setHolder (some f.slots)) (routeTributaryCell_storesKept turn))
  · exact .refl turn s

/-! ### The local frame start (R1, R2, R19, R137) -/

theorem tickTimers_timersBounded (h : TimersBounded s) : TimersBounded (tickTimers s) where
  monitor := fun x => by
    cases x
    · exact ⟨(h.monitor .east).1.countDown, (h.monitor .east).2.countDown⟩
    · exact ⟨(h.monitor .west).1.countDown, (h.monitor .west).2.countDown⟩
  condition := fun x => by
    cases x
    · exact (h.condition .east).countDown
    · exact (h.condition .west).countDown
  engine := fun x => by
    cases x
    · exact (h.engine .east).countDown
    · exact (h.engine .west).countDown

/-- The local frame start at hand moves on, where only a pending COMMIT may then wait for one to be taken. -/
theorem setInstant_storesKept (turn : Option Port) (s : State) {v : FrameInstant}
    (h : v.begun = false → v.swapTurn = true → s.tables.commit.isSome) : StoresKept turn turn s (s.setInstant v) where
  tables := fun k => k.congr rfl rfl
  queues := fun k => k.congr rfl rfl rfl
  profile := fun k => k.congr rfl
  timing := fun _ k => ⟨h, k.holdOff, k.settle, k.wtr, k.confirm⟩

theorem issueFrameStart_storesKept (turn : Option Port) (s : State) : StoresKept turn turn s (issueFrameStart s) := by
  have ticked : StoresKept turn turn s ((tickTimers s).setFrameCount (s.frameCount + 1#32)) :=
    .of_timers turn rfl fun _ h => (tickTimers_timersBounded h).congr rfl rfl rfl
  exact ticked.trans (setInstant_storesKept turn _ nofun)

theorem removeCell_storesKept (turn : Option Port) (q : Port) (s : State) : StoresKept turn turn s (removeCell q s) := by
  have popped : StoresKept turn turn s (s.updateTransmit q TransmitQueue.pop) := .of_queues rfl fun h => h.pop q
  unfold removeCell
  split
  · exact .refl turn s
  · dsimp only
    split
    · exact popped.trans (.of_elsewhere turn rfl)
    · exact popped

theorem buildFrames_storesKept (turn : Option Port) (s : State) : StoresKept turn turn s (buildFrames s) := by
  have read : StoresKept turn turn s
      ((readBuffer .west (readBuffer .east (s.setSquelch s.squelchTests))).setHolder none) :=
    (StoresKept.trans (.of_elsewhere turn rfl) (((readBuffer_ringWork .east _).trans
      (readBuffer_ringWork .west _)).storesKept turn)).trans (.of_elsewhere turn rfl)
  have commit : ((readBuffer .west (readBuffer .east (s.setSquelch s.squelchTests))).setHolder none).tables = s.tables := by
    rw [State.setHolder_tables, readBuffer_frame, readBuffer_frame]
    rfl
  have instant := read.trans (setInstant_storesKept turn _ (v := ⟨false, s.instant.swapTurn && s.tables.commit.isSome⟩)
    fun _ h => by rw [commit]; exact (Bool.and_eq_true _ _ ▸ h).2)
  exact (((instant.trans (.of_elsewhere turn rfl)).trans (removeCell_storesKept turn .east _)).trans
    (removeCell_storesKept turn .west _)).trans (removeCell_storesKept turn .tributary _)

/-! ### The swap (R136, R137) -/

theorem Tables.validates_iff (t : Tables) : t.validates = true ↔ t.standbyDrops.Nodup := decide_eq_true_iff

/-- A swap makes active the standby banks that the validation passed, and fulfils the place that its COMMIT kept. -/
theorem swapTables_storesKept {pc : PendingCommit} (pending : s.tables.commit = some pc) :
    StoresKept none none s (swapTables pc s) where
  tables := fun h => ⟨h.mapSize, (Tables.validates_iff _).1 (h.standby (by rw [pending]; rfl)), nofun⟩
  queues := fun h => by
    have kept : (s.transmit.get pc.port).reserved = 1 := by
      rw [h.reserved]
      simp [State.reservedPlaces, pending]
    refine ⟨h.requests, fun q => ?_, fun q => ?_⟩
    · show ((s.transmit.set pc.port _).get q).occupancy ≤ 8
      rw [Ports.get_set]
      split
      · exact (TransmitQueue.occupancy_fulfil (kept ▸ Nat.one_pos) _).trans_le (h.occupancy pc.port)
      · exact h.occupancy q
    · show ((s.transmit.set pc.port _).get q).reserved = 0
      rw [Ports.get_set]
      split
      · exact congrArg (· - 1) kept
      next other =>
        rw [h.reserved]
        simp [State.reservedPlaces, pending, Ne.symm other]
  profile := fun h => h.congr rfl
  timing := fun _ h => ⟨fun _ => nofun, h.holdOff, h.settle, h.wtr, h.confirm⟩

theorem takeSwap_storesKept (s : State) : StoresKept none none s (takeSwap s) := by
  rcases takeSwap_cases s with same | ⟨pc, pending, -, -, eq⟩
  · rw [same]
    exact .refl none s
  · rw [eq]
    exact (swapTables_storesKept pending).event

theorem takeHoldOffExpiry_storesKept (x : Side) (s : State) : StoresKept none none s (takeHoldOffExpiry x s) :=
  (holdOffExpires_ringWork x s).event_storesKept.guarded

theorem takeSettleMaskExpiry_storesKept (x : Side) (s : State) : StoresKept none none s (takeSettleMaskExpiry x s) :=
  (settleExpires_ringWork x s).event_storesKept.guarded

theorem takeWtrExpiry_storesKept (x : Side) (s : State) : StoresKept none none s (takeWtrExpiry x s) :=
  (wtrExpires_ringWork x s).event_storesKept.guarded

theorem takeConfirmTimerExpiry_storesKept (x : Side) (s : State) : StoresKept none none s (takeConfirmTimerExpiry x s) :=
  (confirmExpires_ringWork x s).event_storesKept.guarded

theorem takeOverdue_storesKept (s : State) : StoresKept none none s (takeOverdue s) :=
  takeOverdue_induction s (.refl none s) (fun x u h => h.trans (takeHoldOffExpiry_storesKept x u))
    (fun x u h => h.trans (takeSettleMaskExpiry_storesKept x u)) (fun x u h => h.trans (takeWtrExpiry_storesKept x u))
    (fun x u h => h.trans (takeConfirmTimerExpiry_storesKept x u)) (fun u h => h.trans (takeSwap_storesKept u))

theorem frameStart_storesKept (part : FrameStartPart) (s : State) : StoresKept none none s (frameStart part s) := by
  unfold frameStart
  split
  · exact .refl none s
  · exact (takeOverdue_storesKept s).trans (issueFrameStart_storesKept none _).event
  · exact (buildFrames_storesKept none s).event
  · exact (takeOverdue_storesKept s).trans
      ((issueFrameStart_storesKept none _).trans (buildFrames_storesKept none _)).event

theorem resetFrameStart_storesKept (part : FrameStartPart) (s : State) : StoresKept none none s (resetFrameStart part s) := by
  cases part with
  | issue => exact .refl none s
  | frames =>
    exact StoresKept.trans (.of_elsewhere none rfl) (setInstant_storesKept none (beginFrames (resetFrames s) s) nofun)

/-! ### Resets (R6, R46, R164) -/

/-- The reset state of every block meets the invariants, whatever stood before. -/
theorem resetBlocks_storesKept (identity : Identity) (s : State) : StoresKept none none s (resetBlocks identity s) where
  tables := fun _ => reset_tablesSound.congr rfl rfl
  queues := fun _ => ((queuesSound_iff _).1 reset_queuesSound).congr rfl rfl rfl
  profile := fun _ => reset_profileSound.congr rfl
  timing := fun _ _ => by
    obtain ⟨_, restTimers⟩ := (timingSound_iff _).1 reset_timingSound
    exact (timingSound_iff _).2 ⟨fun idle turn => absurd (turn.symm.trans idle) nofun,
      fun x => by cases x <;> exact ⟨nofun, nofun⟩, restTimers.condition, restTimers.engine⟩

end

end Sys2Proof.Machine

namespace Sys2Proof.Machine

/-! ### The words of a request that passed its checks (R48, R51, R133, R161, R162, R169) -/

/-- A word passed the checks of a WRITE, SET or CLEAR for its place. -/
structure Storable (s : State) (table i : Nat) (w : Word) : Prop where
  within : i < tableSize table
  unlocked : isStandby table = true → s.tables.commit = none
  writable : refusesWrites s table = false
  unprotected : writeProtected s table i = false
  valid : outOfRange table i w = false

/-- Each word of a request that passed its checks did. -/
theorem storable_of_done {s : State} {table index : Nat} {words : List Word} (h : writeStatus s table index words = .done)
    {w : Word} {i : Nat} (mem : (w, i) ∈ words.zipIdx index) : Storable s table i w := by
  obtain ⟨first, last⟩ : index ≤ i ∧ i < index + words.length :=
    ⟨List.le_snd_of_mem_zipIdx mem, List.snd_lt_add_of_mem_zipIdx mem⟩
  unfold writeStatus at h
  split at h
  · contradiction
  next unlocked =>
    split at h
    · contradiction
    next writable =>
      split at h
      · contradiction
      next within =>
        split at h
        · contradiction
        next valid =>
          have size : i < tableSize table := by
            unfold beyond at within
            simp only [decide_eq_true_eq] at within
            omega
          simp only [Bool.and_eq_true, not_and, Bool.not_eq_true, Option.isSome_eq_false_iff,
            Option.isNone_iff_eq_none] at unlocked
          simp only [Bool.or_eq_true, not_or, Bool.not_eq_true, anyNamed, List.any_eq_false, List.mem_range] at writable
          simp only [List.any_eq_true, not_exists, not_and, Bool.not_eq_true] at valid
          exact ⟨size, unlocked, writable.1, by simpa [first, last] using writable.2 i size, valid _ mem⟩

/-- What a word stored can touch: the node ID in use, the Profile, the Ring Map, the standby banks and the four enables. -/
def StoredFrame (s t : State) : Prop :=
  t = { s with
    identity := { s.identity with nodeId := t.identity.nodeId }, profile := t.profile, ringMap := t.ringMap
    tables := { s.tables with
      slot := ⟨t.tables.slot.standby, s.tables.slot.active⟩, extra := ⟨t.tables.extra.standby, s.tables.extra.active⟩
      circuit := ⟨t.tables.circuit.standby, s.tables.circuit.active⟩ }
    events := { s.events with
      rise := t.events.rise, fall := t.events.fall, notify := t.events.notify, alert := t.events.alert } }

theorem StoredFrame.refl (s : State) : StoredFrame s s := rfl

theorem StoredFrame.trans {s t u : State} (h : StoredFrame s t) (k : StoredFrame t u) : StoredFrame s u := by
  unfold StoredFrame at *
  rw [k, h]

theorem storeEvents_frame (e : EventUnit) (i : Nat) (w : Word) :
    storeEvents e i w = { e with
      rise := (storeEvents e i w).rise, fall := (storeEvents e i w).fall, notify := (storeEvents e i w).notify
      alert := (storeEvents e i w).alert } := by
  unfold storeEvents
  split <;> rfl

theorem storeWord_stored (s : State) (table i : Nat) (w : Word) : StoredFrame s (storeWord s table i w) := by
  unfold StoredFrame storeWord
  split
  · split <;> rfl
  · rfl
  · rfl
  · split <;> rfl
  · split <;> rfl
  · split <;> rfl
  · rw [storeEvents_frame]
    rfl
  · rfl

theorem storeWords_stored (s : State) (table index : Nat) (words : List Word) :
    StoredFrame s (storeWords s table index words) := by
  unfold storeWords
  generalize words.zipIdx index = l
  induction l generalizing s with
  | nil => exact .refl s
  | cons wi l ih => exact (storeWord_stored s table wi.2 wi.1).trans (ih _)

theorem Storable.congr {s t : State} {table i : Nat} {w : Word} (h : Storable s table i w) (k : StoredFrame s t) :
    Storable t table i w := by
  obtain ⟨within, unlocked, writable, unprotected, valid⟩ := h
  have commit : t.tables.commit = s.tables.commit := by rw [k]
  have joined : t.joined = s.joined := by rw [k]; rfl
  refine ⟨within, commit ▸ unlocked, ?_, ?_, valid⟩
  · unfold refusesWrites at *
    rw [joined]
    exact writable
  · unfold writeProtected at *
    rw [joined]
    exact unprotected

/-- What holds of a state and is kept by each word stored holds after the words of a request that passed its checks. -/
theorem storeWords_induction {P : State → Prop} {s : State} {table index : Nat} {words : List Word}
    (passed : writeStatus s table index words = .done) (start : P s)
    (store : ∀ u i w, (w, i) ∈ words.zipIdx index → Storable u table i w → P u → P (storeWord u table i w)) :
    P (storeWords s table index words) := by
  have storable := fun w i => storable_of_done (w := w) (i := i) passed
  clear passed
  unfold storeWords
  generalize words.zipIdx index = l at *
  induction l generalizing s with
  | nil => exact start
  | cons wi l ih =>
    obtain ⟨w, i⟩ := wi
    refine ih (store s i w List.mem_cons_self (storable w i List.mem_cons_self) start)
      (fun u j v mem => store u j v (List.mem_cons_of_mem _ mem)) fun v j mem => ?_
    exact (storable v j (List.mem_cons_of_mem _ mem)).congr (storeWord_stored s table i w)

theorem clamped_mem {lo hi : Nat} (range : lo ≤ hi) (v : Nat) : lo ≤ clamped lo hi v ∧ clamped lo hi v ≤ hi := by
  unfold clamped
  omega

/-- The numeric fields of a Profile word are stored at the nearer limit of their ranges (R162). -/
theorem storeProfile_profileSound {s : State} {i : Nat} (w : Word) (h : ProfileSound s) :
    ProfileSound (s.setProfile (storeProfile s.profile i w)) := by
  obtain ⟨holdOff, settle, wtr, confirm, hop⟩ := h
  unfold storeProfile
  split
  · exact ⟨holdOff, settle, wtr, confirm, hop⟩
  · exact ⟨holdOff, settle, wtr, confirm, hop⟩
  · exact ⟨holdOff, settle, wtr, confirm, hop⟩
  · exact ⟨holdOff, settle, wtr, confirm, hop⟩
  · exact ⟨(clamped_mem (by decide) _).2, (clamped_mem (by decide) _).2, wtr, confirm, hop⟩
  · exact ⟨holdOff, settle, clamped_mem (by decide) _, clamped_mem (by decide) _, hop⟩
  · exact ⟨holdOff, settle, wtr, confirm, clamped_mem (by decide) _⟩
  · exact ⟨holdOff, settle, wtr, confirm, hop⟩

/-- N is stored as it passed its check (R51). -/
theorem storeRingMap_n_le {m : RingMap} {i : Nat} {w : Word} (h : m.n ≤ 32) (valid : outOfRange 2 i w = false) :
    (storeRingMap m i w).n ≤ 32 := by
  cases i with
  | zero => simpa [outOfRange, storeRingMap] using valid
  | succ p => exact h

/-- A word that passed its checks keeps the stores within their bounds: N at most 32, no standby bank while a commit is pending,
numeric Profile fields at the nearer limit (R51, R134, R162). -/
theorem storeWord_storesKept (turn : Option Port) {s : State} {table i : Nat} {w : Word} (h : Storable s table i w) :
    StoresKept turn turn s (storeWord s table i w) := by
  obtain ⟨-, unlocked, -, -, valid⟩ := h
  have standby {tables : Tables} (t : isStandby table = true) (same : tables.commit = s.tables.commit)
      (active : tables.activeDrops = s.tables.activeDrops) : StoresKept turn turn s (s.setTables tables) :=
    ⟨fun k => ⟨k.mapSize, active ▸ k.active, by rw [State.setTables_tables, same, unlocked t]; nofun⟩,
      fun k => k.congr rfl rfl same, fun k => k.congr rfl, fun _ k => k.unmoved rfl same rfl rfl rfl⟩
  unfold storeWord
  split
  · split
    · exact .of_elsewhere turn rfl
    · exact .refl turn s
  · exact ⟨fun k => k.congr rfl rfl, fun k => k.congr rfl rfl rfl, storeProfile_profileSound w,
      fun _ k => k.unmoved rfl rfl rfl rfl rfl⟩
  · exact ⟨fun k => ⟨storeRingMap_n_le k.mapSize valid, k.active, k.standby⟩, fun k => k.congr rfl rfl rfl,
      fun k => k.congr rfl, fun _ k => k.unmoved rfl rfl rfl rfl rfl⟩
  · split
    · exact standby rfl rfl rfl
    · exact .refl turn s
  · split
    · exact standby rfl rfl rfl
    · exact .refl turn s
  · split
    · exact standby rfl rfl rfl
    · exact .refl turn s
  · exact .of_elsewhere turn rfl
  · exact .refl turn s

theorem storeWords_storesKept (turn : Option Port) {s : State} {table index : Nat} {words : List Word}
    (passed : writeStatus s table index words = .done) :
    StoresKept turn turn s (storeWords s table index words) :=
  storeWords_induction passed (.refl turn s) fun _ _ _ _ storable kept => kept.trans (storeWord_storesKept turn storable)

/-! ### The turns of the Agent (R157) -/

/-- The turn that is due takes the head of a queue whose port has a free place (R157). -/
theorem nextTurn_takable {s : State} {q : Port} {c : Cell} (due : s.nextTurn = some (q, c)) :
    (s.transmit.get q).hasPlace = true ∧ (s.requests.get q).head? = some c := by
  unfold State.nextTurn at due
  simp only [Option.bind_eq_some_iff, Option.map_eq_some_iff, Prod.mk.injEq] at due
  obtain ⟨r, found, d, head, rfl, rfl⟩ := due
  have takable := List.find?_some found
  unfold State.takable at takable
  exact ⟨(Bool.and_eq_true _ _ ▸ takable).2, head⟩

theorem takeRequest_storesKept {s : State} {q : Port} (place : (s.transmit.get q).hasPlace = true) :
    StoresKept none (some q) s (takeRequest q s) where
  tables := fun h => h.congr rfl rfl
  queues := fun h => by
    refine ⟨fun r => ?_, fun r => ?_, fun r => ?_⟩
    · show ((s.requests.set q _).get r).length ≤ 4
      rw [Ports.get_set]
      split
      · exact List.length_tail.trans_le ((Nat.sub_le _ 1).trans (h.requests q))
      · exact h.requests r
    · show ((s.transmit.set q _).get r).occupancy ≤ 8
      rw [Ports.get_set]
      split
      · rw [TransmitQueue.occupancy_reserve]
        exact (TransmitQueue.hasPlace_iff _).1 place
      · exact h.occupancy r
    · show ((s.transmit.set q _).get r).reserved = s.reservedPlaces r + _
      have kept := h.reserved r
      rw [Ports.get_set]
      split
      next same => simpa [same, TransmitQueue.reserve] using kept
      next other => simpa [Ne.symm other] using kept
  profile := fun h => h.congr rfl
  timing := fun _ h => h.unmoved rfl rfl rfl rfl rfl

/-- The response fulfils the place that the turn kept (R155, R157). -/
theorem respond_storesKept (q : Port) (c : Cell) (st : Status) (words : List Word) (s : State) :
    StoresKept (some q) none s (respond q c st words s) where
  tables := fun h => h.congr rfl rfl
  queues := fun h => by
    have kept : 0 < (s.transmit.get q).reserved := by simp [h.reserved]
    refine ⟨h.requests, fun r => ?_, fun r => ?_⟩
    · show ((s.transmit.set q _).get r).occupancy ≤ 8
      rw [Ports.get_set]
      split
      · exact (TransmitQueue.occupancy_fulfil kept _).trans_le (h.occupancy q)
      · exact h.occupancy r
    · show ((s.transmit.set q _).get r).reserved = s.reservedPlaces r
      have reserved := h.reserved r
      rw [Ports.get_set]
      split
      next same => simp_all [TransmitQueue.fulfil]
      next other => simpa [Ne.symm other] using reserved
  profile := fun h => h.congr rfl
  timing := fun _ h => h.unmoved rfl rfl rfl rfl rfl

/-- What a row's service does with the place that its turn keeps: it is answered, or left to a COMMIT that is then pending. -/
def Serves (serve : Port → Cell → State → State) : Prop :=
  ∀ q c s, StoresKept (some q) none s (serve q c s)

theorem checked_serves {serve : Port → Cell → State → State} (h : Serves serve) : Serves (checked serve) := by
  intro q c s
  unfold checked
  split
  · exact h q c s
  · exact respond_storesKept q c _ _ s

theorem addressed_serves {serve : Port → Cell → State → State} (h : Serves serve) : Serves (addressed serve) := by
  intro q c s
  unfold addressed
  split
  · exact respond_storesKept q c _ _ s
  · exact h q c s

theorem serveRead_serves : Serves serveRead := by
  intro q c s
  unfold serveRead
  split <;> exact respond_storesKept q c _ _ s

theorem setRetryFlag_storesKept (turn : Option Port) (s : State) (v : Bool) :
    StoresKept turn turn s (s.setTables { s.tables with retryFlag := v }) where
  tables := fun h => ⟨h.mapSize, h.active, h.standby⟩
  queues := fun h => h.congr rfl rfl rfl
  profile := fun h => h.congr rfl
  timing := fun _ h => h.unmoved rfl rfl rfl rfl rfl

theorem setCounters_storesKept (turn : Option Port) (s : State) (v : Vector Word 18) :
    StoresKept turn turn s (s.setCounters v) := .of_elsewhere turn rfl

theorem clearRead_storesKept (turn : Option Port) (table index count : Nat) (s : State) :
    StoresKept turn turn s (clearRead table index count s) := by
  unfold clearRead
  split
  · exact (setCounters_storesKept turn s _).trans (setRetryFlag_storesKept turn _ false).guarded
  · split
    · exact .of_elsewhere turn rfl
    · exact .refl turn s

theorem serveReadClear_serves : Serves serveReadClear := by
  intro q c s
  unfold serveReadClear
  split
  · exact (clearRead_storesKept _ _ _ _ s).trans (respond_storesKept q c _ _ _)
  · exact respond_storesKept q c _ _ s

theorem countRetry_storesKept (turn : Option Port) (s : State) : StoresKept turn turn s (countRetry s) :=
  (bump_storesKept turn s .retries 1).trans (setRetryFlag_storesKept turn _ true)

theorem serveWrite_serves (form : Word → Word → Word) : Serves (serveWrite form) := by
  intro q c s
  unfold serveWrite
  dsimp only
  split
  next passed => exact (storeWords_storesKept _ passed).trans (respond_storesKept q c _ _ _)
  next => exact (countRetry_storesKept _ s).trans (respond_storesKept q c _ _ _)
  next => exact respond_storesKept q c _ _ s

/-- A COMMIT that passes its validation takes over the place that its turn kept (R135, R136, R157). -/
theorem serveCommit_serves : Serves serveCommit := by
  intro q c s
  unfold serveCommit
  split
  · exact (countRetry_storesKept _ s).trans (respond_storesKept q c _ _ _)
  next free =>
    have none : s.tables.commit = none := by simpa using free
    split
    next valid =>
      refine ⟨fun h => ⟨h.mapSize, h.active, fun _ => valid⟩, fun h => ⟨h.requests, h.occupancy, fun r => ?_⟩,
        fun h => h.congr rfl, fun _ h => ⟨fun _ _ => rfl, h.holdOff, h.settle, h.wtr, h.confirm⟩⟩
      have kept := h.reserved r
      simp only [State.reservedPlaces, none, Nat.zero_add, Option.some.injEq] at kept
      exact kept
    next => exact respond_storesKept q c _ _ s

theorem servePoll_serves : Serves servePoll := fun q c s => respond_storesKept q c _ _ s

theorem serveCommand_serves {accepted : State → Bool} {effect : State → State}
    (h : ∀ turn s, StoresKept turn turn s (effect s)) : Serves (serveCommand accepted effect) := by
  intro q c s
  unfold serveCommand
  split
  · exact (h _ s).trans (respond_storesKept q c _ _ _)
  · exact respond_storesKept q c _ _ s

theorem joinEffect_storesKept (turn : Option Port) (s : State) : StoresKept turn turn s (joinEffect s) := by
  have joining : StoresKept turn turn s
      ((unlearnAll s).setIdentity { s.identity with joined := true, position := s.joinPosition }) := .of_elsewhere turn rfl
  exact joining.trans ((((joinHoldOff_ringWork .east _).trans (joinHoldOff_ringWork .west _)).trans
    (tableNotice_ringWork _)).storesKept turn)

theorem leaveEffect_storesKept (turn : Option Port) (s : State) : StoresKept turn turn s (leaveEffect s) := by
  have cleared : RingWork s ((s.setCondition
      ⟨{ s.condition.east with command := .none }, { s.condition.west with command := .none }⟩).setPark false) :=
    .of_frame rfl fun _ h => ⟨h.monitor, fun x => by
      cases x
      · exact h.condition .east
      · exact h.condition .west, h.engine⟩
  have ended (u : State) : RingWork u (u.setMonitor ⟨u.monitor.east.endHoldOff, u.monitor.west.endHoldOff⟩) :=
    .of_frame rfl fun _ h => ⟨fun x => by
      cases x
      · exact (h.monitor .east).endHoldOff
      · exact (h.monitor .west).endHoldOff, h.condition, h.engine⟩
  have alone (u : State) : StoresKept turn turn u
      ((unlearnAll u).setIdentity { u.identity with joined := false, position := none }) := .of_elsewhere turn rfl
  exact (((cleared.trans (formAnnounced_ringWork _)).storesKept turn).trans (alone _)).trans
    (((ended _).trans (recompute_ringWork _)).storesKept turn)

theorem turn_storesKept (kind : Request) {serve : Port → Cell → State → State} (h : Serves serve) (s : State) :
    StoresKept none none s (turn kind serve s) := by
  unfold turn turnAs
  split
  next q c due => exact ((takeRequest_storesKept (nextTurn_takable due).1).trans (h q c _)).event.guarded
  next => exact .refl none s

theorem turnReadClear_storesKept (s : State) :
    StoresKept none none s (turnAs readClearEvent .readClear (checked (addressed serveReadClear)) s) := by
  unfold turnAs
  split
  next q c due =>
    exact ((takeRequest_storesKept (nextTurn_takable due).1).trans
      (checked_serves (addressed_serves serveReadClear_serves) q c _)).readClearEvent.guarded
  next => exact .refl none s

theorem command_storesKept (kind : Request) (accepted : State → Bool) {effect : State → State}
    (h : ∀ turn s, StoresKept turn turn s (effect s)) (s : State) :
    StoresKept none none s (turn kind (checked (serveCommand accepted effect)) s) :=
  turn_storesKept kind (checked_serves (serveCommand_serves h)) s

theorem ringCommand_storesKept (kind : Request) (accepted : State → Bool) {effect : State → State}
    (h : ∀ s, RingWork s (effect s)) (s : State) :
    StoresKept none none s (turn kind (checked (serveCommand accepted effect)) s) :=
  command_storesKept kind accepted (fun turn u => (h u).storesKept turn) s

theorem execRestart_storesKept (straps : BitVec 6) (s : State) :
    ∃ t, exec (.restart straps) s = .next t ∧ StoresKept none none s t := by
  refine ⟨_, rfl, ?_⟩
  split
  next q c due =>
    split
    · split
      · exact resetBlocks_storesKept _ s
      · exact ((takeRequest_storesKept (nextTurn_takable due).1).trans (respond_storesKept q c _ _ _)).event
    · exact .refl none s
  next => exact .refl none s

/-! ### Every command -/

theorem losInReset_storesKept (x : Side) (v : Bool) (s : State) :
    StoresKept none none s (losInReset x v s) := by
  have moved : RingWork s ((s.setLosPin (s.losPin.set x v)).updateMonitor x (·.withLos v)) :=
    RingWork.trans (.of_untimed rfl) (setMonitor_ringWork (s.setLosPin (s.losPin.set x v)) x _ fun _ h => h)
  exact (moved.storesKept none).trans (.of_elsewhere none rfl)

theorem unknown_serves : Serves fun q c s => respond q c .unknown [] s := fun q c s => respond_storesKept q c _ _ s

/-- Every command keeps the stores within their bounds. -/
theorem exec_storesKept (c : Instr) (s : State) : ∃ t, exec c s = .next t ∧ StoresKept none none s t := by
  cases c with
  | resetNAssert =>
    exact ⟨_, rfl, ((resetBlocks_storesKept _ s).trans (.of_elsewhere none rfl)).guarded⟩
  | resetNRelease straps =>
    refine ⟨_, rfl, ?_⟩
    split
    · exact .refl none s
    · exact (resetBlocks_storesKept _ s).trans (.of_elsewhere none rfl)
  | localFrameStart part =>
    refine ⟨_, rfl, ?_⟩
    split
    · exact frameStart_storesKept part s
    · exact resetFrameStart_storesKept part s
  | commitSwap => exact ⟨_, rfl, takeSwap_storesKept s⟩
  | losAssert x =>
    refine ⟨_, rfl, ?_⟩
    split
    · exact .refl none s
    · split
      · exact (losRises_ringWork x s).event_storesKept
      · exact losInReset_storesKept x true s
  | losRelease x =>
    refine ⟨_, rfl, ?_⟩
    split
    · exact .refl none s
    · split
      · exact (losFalls_ringWork x s).event_storesKept
      · exact losInReset_storesKept x false s
  | alignmentWordFound x => exact ⟨_, rfl, (RingWork.of_untimed rfl).event_storesKept.guarded⟩
  | presyncWordCheck x word => exact ⟨_, rfl, (presyncWord_ringWork x word s).event_storesKept.guarded⟩
  | alignedWordCheck x word => exact ⟨_, rfl, (alignedWord_ringWork x word s).event_storesKept.guarded⟩
  | alignedFrameArrival x frame order => exact ⟨_, rfl, (frameArrival_storesKept none x frame order s).event.guarded⟩
  | holdOffExpiry x => exact ⟨_, rfl, takeHoldOffExpiry_storesKept x s⟩
  | settleMaskExpiry x => exact ⟨_, rfl, takeSettleMaskExpiry_storesKept x s⟩
  | wtrExpiry x => exact ⟨_, rfl, takeWtrExpiry_storesKept x s⟩
  | confirmTimerExpiry x => exact ⟨_, rfl, takeConfirmTimerExpiry_storesKept x s⟩
  | tributaryFrameArrival frame => exact ⟨_, rfl, (tributaryArrival_storesKept none frame s).event.guarded⟩
  | read => exact ⟨_, rfl, turn_storesKept _ (checked_serves (addressed_serves serveRead_serves)) s⟩
  | write => exact ⟨_, rfl, turn_storesKept _ (checked_serves (addressed_serves (serveWrite_serves _))) s⟩
  | set => exact ⟨_, rfl, turn_storesKept _ (checked_serves (addressed_serves (serveWrite_serves _))) s⟩
  | clear => exact ⟨_, rfl, turn_storesKept _ (checked_serves (addressed_serves (serveWrite_serves _))) s⟩
  | readClear => exact ⟨_, rfl, turnReadClear_storesKept s⟩
  | commit => exact ⟨_, rfl, turn_storesKept _ (checked_serves serveCommit_serves) s⟩
  | poll => exact ⟨_, rfl, turn_storesKept _ (checked_serves servePoll_serves) s⟩
  | forceEast => exact ⟨_, rfl, ringCommand_storesKept _ _ (setCommand_ringWork .east .force) s⟩
  | forceWest => exact ⟨_, rfl, ringCommand_storesKept _ _ (setCommand_ringWork .west .force) s⟩
  | manualEast => exact ⟨_, rfl, ringCommand_storesKept _ _ (setCommand_ringWork .east .manual) s⟩
  | manualWest => exact ⟨_, rfl, ringCommand_storesKept _ _ (setCommand_ringWork .west .manual) s⟩
  | park => exact ⟨_, rfl, ringCommand_storesKept _ _ (setParkCommand_ringWork true) s⟩
  | clearPark => exact ⟨_, rfl, ringCommand_storesKept _ _ (setParkCommand_ringWork false) s⟩
  | clearEast => exact ⟨_, rfl, ringCommand_storesKept _ _ (clearSide_ringWork .east) s⟩
  | clearWest => exact ⟨_, rfl, ringCommand_storesKept _ _ (clearSide_ringWork .west) s⟩
  | join => exact ⟨_, rfl, command_storesKept _ _ joinEffect_storesKept s⟩
  | leave => exact ⟨_, rfl, command_storesKept _ _ leaveEffect_storesKept s⟩
  | restart straps => exact execRestart_storesKept straps s
  | noticeSendAttempt => exact ⟨_, rfl, (sendAttempt_storesKept none s).event.guarded⟩
  | unknownOperation => exact ⟨_, rfl, turn_storesKept _ (checked_serves unknown_serves) s⟩
  | unknownCommand => exact ⟨_, rfl, turn_storesKept _ (checked_serves unknown_serves) s⟩

/-- Settles O6: every command keeps the four parts of the invariant, and the queue of waiting commands is none of them. -/
theorem stepKeepsStoresSound : Obligations.StepKeepsStoresSound := by
  intro s t stepped
  have kept : StoresKept none none s t := by
    unfold step at stepped
    split at stepped
    · cases stepped
      exact .refl none s
    next c rest _ =>
      obtain ⟨u, ran, kept⟩ := exec_storesKept c (s.setPending rest)
      cases ran.symm.trans stepped
      exact StoresKept.trans (.of_elsewhere none rfl) kept
  exact ⟨kept.tables, fun h => (queuesSound_iff t).2 (kept.queues ((queuesSound_iff s).1 h)), kept.profile, kept.timing⟩

end Sys2Proof.Machine

/-! PROOFS. The three resets (O8). -/

namespace Sys2Proof.Machine

/-- The held values of the reset state are the LOF of each side and the LOS that its pin gives (R166). -/
theorem reset_held (los : Sides Bool) (i : Fin 32) :
    (EventUnit.reset los).held.getLsbD i =
      (i.val == 1 || i.val == 10 || (i.val == 0 && los.east) || (i.val == 9 && los.west)) := by
  obtain ⟨east, west⟩ := los
  revert east west i
  decide

/-- Every block at its power-on state, with any identity of a STANDALONE part and any level of RESET_N. -/
theorem resetBlocks_powerOn (s : State) (identity : Identity) (alone : identity.joined = false ∧ identity.position = none)
    (level : Bool) : PowerOn s ((resetBlocks identity s).setResetN level) where
  frameCount := rfl
  receiver := reset_powerOn.receiver
  buffer := reset_powerOn.buffer
  holder := rfl
  monitor := fun x => by cases x <;> rfl
  condition := reset_powerOn.condition
  park := rfl
  rct := reset_powerOn.rct
  own := reset_powerOn.own
  neighbour := reset_powerOn.neighbour
  resolver := rfl
  engine := reset_powerOn.engine
  mode := alone
  ringMap := reset_powerOn.ringMap
  profile := rfl
  banks := reset_powerOn.banks
  commit := reset_powerOn.commit
  squelch := rfl
  queues := reset_powerOn.queues
  pointer := rfl
  held := reset_held s.losPin
  events := ⟨rfl, rfl, rfl, rfl, rfl, rfl, rfl⟩
  counters := reset_powerOn.counters
  alertN := rfl
  kept := ⟨rfl, rfl, rfl, rfl⟩
  instant := rfl

theorem exec_resetNRelease {s : State} (low : s.resetN = false) (straps : BitVec 6) :
    exec (.resetNRelease straps) s = .next ((resetBlocks (Identity.reset straps) s).setResetN true) := by
  show Host.Outcome.next (if s.resetN then _ else _) = _
  rw [low]
  rfl

theorem exec_resetNAssert {s : State} (high : s.resetN = true) :
    exec .resetNAssert s =
      .next ((resetBlocks ⟨s.identity.strap, s.identity.nodeId, false, none⟩ s).setResetN false) := by
  show Host.Outcome.next (if s.resetN then _ else _) = _
  rw [high]
  rfl

/-- An accepted RESTART resets every block and leaves RESET_N high, as it was (R164). -/
theorem exec_restart {s : State} {q : Port} {c : Cell} (takes : TurnTakes s (.command .restart) q c) (straps : BitVec 6) :
    exec (.restart straps) s = .next ((resetBlocks (Identity.reset straps) s).setResetN true) := by
  obtain ⟨high, due, kind, data⟩ := takes
  have kept : (resetBlocks (Identity.reset straps) s).setResetN true = resetBlocks (Identity.reset straps) s := by
    rw [← high]
    rfl
  show execRestart straps s = _
  simp [execRestart, due, high, kind, data, kept]

/-- Settles O8: each reset is the reset of every block, with the strap value and node ID that it leaves. -/
theorem resetsArePowerOn : Obligations.ResetsArePowerOn := by
  intro s straps q c
  refine ⟨fun low => ⟨_, exec_resetNRelease low straps, ?_, rfl, rfl⟩, fun high => ⟨_, exec_resetNAssert high, ?_, rfl, rfl⟩,
    fun takes => ⟨_, exec_restart takes straps, ?_, rfl, rfl⟩⟩
  all_goals exact resetBlocks_powerOn s _ ⟨rfl, rfl⟩ _

end Sys2Proof.Machine

/-! PROOFS. When a command is accepted, and what becomes of one that is not (O44). -/

namespace Sys2Proof.Machine

/-! ### Some learned entry of the table (R93, R96, R102) -/

theorem mem_spanEnds (e : Nat × Side) : e ∈ spanEnds ↔ e.1 < 32 := by
  obtain ⟨p, x⟩ := e
  unfold spanEnds
  cases x <;> simp

theorem anyLearned_iff (s : State) (test : Entry → Bool) :
    s.anyLearned test = true ↔ ∃ p : Fin 32, ∃ x, (s.entry p x).learned = true ∧ test (s.entry p x) = true := by
  unfold State.anyLearned
  simp only [List.any_eq_true, mem_spanEnds, Bool.and_eq_true, Prod.exists]
  exact ⟨fun ⟨p, x, lt, h⟩ => ⟨⟨p, lt⟩, x, h⟩, fun ⟨p, x, h⟩ => ⟨p.val, x, p.isLt, h⟩⟩

/-! ### The Ring Map's positions (R50, R55, R145) -/

theorem elementAt_of_lt {α : Type} {n i : Nat} (v : Vector α n) (h : i < n) (d : α) : elementAt v i d = v[i] := by
  simp [elementAt, h]

theorem elementAt_of_le {α : Type} {n i : Nat} (v : Vector α n) (h : n ≤ i) (d : α) : elementAt v i d = d := by
  simp [elementAt, h]

theorem idAt_fin (m : RingMap) (p : Fin 32) : m.idAt p.val = m.ids[p] := elementAt_of_lt m.ids p.isLt none

/-- The own position is one below N that holds the node ID. -/
theorem positionOf_some {m : RingMap} {id q : Nat} (h : m.positionOf id = some q) :
    q < m.n ∧ (m.idAt q).map (·.val) = some id := by
  unfold RingMap.positionOf at h
  have found := List.find?_some h
  refine ⟨List.mem_range.1 (List.mem_of_find?_eq_some h), ?_⟩
  cases e : m.idAt q with
  | none => simp [e] at found
  | some i => simpa [e] using found

theorem positionOf_isSome_iff (m : RingMap) (id : Nat) :
    (m.positionOf id).isSome = true ↔ ∃ p < m.n, ∃ i, m.idAt p = some i ∧ i.val = id := by
  unfold RingMap.positionOf
  rw [List.find?_isSome]
  constructor
  · rintro ⟨p, mem, h⟩
    obtain ⟨i, e, eq⟩ := (Option.any_eq_true _ _).1 h
    exact ⟨p, List.mem_range.1 mem, i, e, by simpa using eq⟩
  · rintro ⟨p, lt, i, e, rfl⟩
    exact ⟨p, List.mem_range.2 lt, by simp [e]⟩

theorem complete_iff (m : RingMap) :
    m.complete = true ↔ (3 ≤ m.n ∧ m.n ≤ 32) ∧ (∀ p : Fin 32, p.val < m.n → m.ids[p] ≠ none) ∧
      ∀ p q : Fin 32, p.val < m.n → q.val < m.n → m.ids[p] = m.ids[q] → p = q := by
  unfold RingMap.complete
  simp only [Bool.and_eq_true, decide_eq_true_eq, List.all_map, List.all_eq_true, List.mem_range, Function.comp_apply,
    List.nodup_map_iff_inj_on List.nodup_range, and_assoc]
  refine and_congr_right fun _ => and_congr_right fun size => and_congr ?_ ?_
  · constructor
    · intro h p lt
      rw [← idAt_fin]
      exact Option.isSome_iff_ne_none.1 (h p lt)
    · intro h p lt
      have := h ⟨p, by omega⟩ lt
      rw [← idAt_fin] at this
      exact Option.isSome_iff_ne_none.2 this
  · constructor
    · intro h p q ltp ltq same
      rw [← idAt_fin, ← idAt_fin] at same
      exact Fin.ext (h p ltp q ltq same)
    · intro h p ltp q ltq same
      exact congrArg Fin.val (h ⟨p, by omega⟩ ⟨q, by omega⟩ ltp ltq (by rw [← idAt_fin, ← idAt_fin]; exact same))

/-- The position that JOIN fixes: one below N, where N is at most 32, that holds the node ID in use (R55). -/
theorem joinPosition_isSome_iff {s : State} (size : s.ringMap.n ≤ 32) :
    s.joinPosition.isSome = true ↔ (s.ringMap.positionOf s.identity.nodeId.toNat).isSome = true := by
  unfold State.joinPosition
  cases e : s.ringMap.positionOf s.identity.nodeId.toNat with
  | none => rfl
  | some p => simp [(positionOf_some e).1.trans_le size]

/-! ### Acceptance (R55, R57, R93, R163) -/

theorem forceAccepted_iff (s : State) :
    forceAccepted s = true ↔
      s.joined = true ∧ ∀ p : Fin 32, ∀ x, (s.entry p x).learned = true → (s.entry p x).condition ≠ .park := by
  unfold forceAccepted State.learnedPark
  rw [Bool.and_eq_true, Bool.not_eq_true', ← Bool.not_eq_true, anyLearned_iff]
  simp

theorem manualAccepted_iff (s : State) :
    manualAccepted s = true ↔ s.joined = true ∧
      ∀ p : Fin 32, ∀ x, (s.entry p x).learned = true → (s.entry p x).condition.code < Condition.fade.code := by
  unfold manualAccepted State.learnedTrouble
  rw [Bool.and_eq_true, Bool.not_eq_true', ← Bool.not_eq_true, anyLearned_iff]
  simp

theorem joinAccepted_iff (s : State) : joinAccepted s = true ↔ JoinAccepted s := by
  unfold joinAccepted
  rw [Bool.and_eq_true, Bool.and_eq_true, Bool.not_eq_true', complete_iff]
  constructor
  · rintro ⟨⟨mode, size, filled, distinct⟩, position⟩
    obtain ⟨p, lt, i, e, eq⟩ := (positionOf_isSome_iff _ _).1 ((joinPosition_isSome_iff size.2).1 position)
    exact ⟨mode, size, filled, distinct, ⟨p, by omega⟩, lt, i, (idAt_fin _ _).symm.trans e, eq⟩
  · rintro ⟨mode, size, filled, distinct, p, lt, i, e, eq⟩
    exact ⟨⟨mode, size, filled, distinct⟩, (joinPosition_isSome_iff size.2).2
      ((positionOf_isSome_iff _ _).2 ⟨p, lt, i, (idAt_fin _ p).trans e, eq⟩)⟩

theorem leaveAccepted_iff (s : State) :
    leaveAccepted s = true ↔ s.joined = true ∧ ∀ x, (s.engine.get x).phase = .idle := by
  unfold leaveAccepted
  simp only [Bool.and_eq_true, beq_iff_eq, and_assoc]
  exact and_congr_right fun _ => ⟨fun ⟨east, west⟩ x => by cases x <;> assumption, fun h => ⟨h .east, h .west⟩⟩

/-! ### The turn of a command (R157, R163) -/

/-- An event is what its work makes of the state. -/
theorem event_congr {f g : State → State} {s : State} (h : f s = g s) : event f s = event g s := by
  unfold event
  rw [h]

section
variable {s : State} {k : Request} {q : Port} {c : Cell} {accepted : State → Bool} {effect : State → State}

/-- A command that is accepted has its effect in the turn and is answered DONE. -/
theorem turn_accepted (takes : TurnTakes s k q c) (yes : accepted (takeRequest q s) = true) :
    turn k (checked (serveCommand accepted effect)) s =
      event (fun _ => respond q c .done [] (effect (takeRequest q s))) s := by
  obtain ⟨high, due, kind, data⟩ := takes
  rw [turn_due high due kind]
  exact event_congr (by simp [checked, data, serveCommand, yes])

/-- A command that is not accepted is answered REFUSED, and its turn does nothing else. -/
theorem turn_refused (sound : EventsSound s) (takes : TurnTakes s k q c) (no : ¬accepted (takeRequest q s) = true) :
    turn k (checked (serveCommand accepted effect)) s = s.answered q c .refused [] := by
  obtain ⟨high, due, kind, data⟩ := takes
  rw [turn_due high due kind, ← event_answered sound]
  exact event_congr (by simp [checked, data, serveCommand, no])

end

/-- Settles O44, command by command: taking the request moves nothing that a command's acceptance reads. -/
theorem unacceptedCommandIsRefused : Obligations.UnacceptedCommandIsRefused := by
  intro s k q c straps sound takes no
  cases k with
  | forceEast | forceWest =>
    exact congrArg _ (turn_refused sound takes fun yes => no ((forceAccepted_iff s).1 yes))
  | manualEast | manualWest =>
    exact congrArg _ (turn_refused sound takes fun yes => no ((manualAccepted_iff s).1 yes))
  | park | clearPark | clearEast | clearWest => exact congrArg _ (turn_refused (accepted := State.joined) sound takes no)
  | join => exact congrArg _ (turn_refused sound takes fun yes => no ((joinAccepted_iff s).1 yes))
  | leave => exact congrArg _ (turn_refused sound takes fun yes => no ((leaveAccepted_iff s).1 yes))
  | restart => exact absurd trivial no

end Sys2Proof.Machine

/-! PROOFS. A table-change notice while no MANUAL command stands: it settles the Resolver's results, the engines and the own
entries (R62, R98, R100, R110; log 17). -/

namespace Sys2Proof.Machine

/-! ### What the Resolver reads of the table (R101 to R106) -/

/-- The table of s and t shows the same of every span end, by what `read` takes of an entry; an entry that is not learned shows
as much. -/
def TablesAgree {α : Type} (read : Entry → α) (s t : State) : Prop :=
  ∀ p x, (t.entry p x).learned = (s.entry p x).learned ∧ read (t.entry p x) = read (s.entry p x)

/-- The table is the remote entries with the own entries at the own position (R62). -/
theorem tablesAgree_of_own {α : Type} {read : Entry → α} {s t : State} (identity : t.identity = s.identity)
    (rct : t.signalling.rct = s.signalling.rct)
    (own : ∀ x,
      let o := s.signalling.own.get x
      let o' := t.signalling.own.get x
      read ⟨o'.condition, o'.action, o'.edition, some .own⟩ = read ⟨o.condition, o.action, o.edition, some .own⟩) :
    TablesAgree read s t := by
  intro p x
  unfold State.entry State.joined
  rw [identity, rct]
  split
  · exact ⟨rfl, own x⟩
  · exact ⟨rfl, rfl⟩

theorem anyLearned_congr {s t : State} {α : Type} {read : Entry → α} (h : TablesAgree read s t) (test : α → Bool) :
    (t.anyLearned fun e => test (read e)) = s.anyLearned fun e => test (read e) := by
  unfold State.anyLearned
  congr 1
  funext e
  obtain ⟨learned, same⟩ := h e.1 e.2
  dsimp only
  rw [learned, same]

/-- R is chosen by the conditions alone (R101, R102). -/
theorem chooseRestored_congr {s t : State} (n : t.ringMap.n = s.ringMap.n) (h : TablesAgree Entry.condition s t) :
    t.chooseRestored = s.chooseRestored := by
  have spans : t.spanCondition = s.spanCondition := by
    funext k
    unfold State.spanCondition Entry.countedCondition
    rw [n, (h _ _).1, (h _ _).2, (h _ _).1, (h _ _).2]
  have park : t.learnedPark = s.learnedPark := anyLearned_congr h (· == .park)
  unfold State.chooseRestored
  rw [n, spans, park]

theorem quiet_congr {s t : State} (h : TablesAgree Entry.action s t) : t.quiet = s.quiet := by
  unfold State.quiet
  exact congrArg (!·) (anyLearned_congr h (· != .pass))

/-- The loop targets follow the mode, the own position and R (R106). -/
theorem resolved_target_congr {s t : State} (identity : t.identity = s.identity) (n : t.ringMap.n = s.ringMap.n)
    (h : TablesAgree Entry.condition s t) : t.resolved.target = s.resolved.target := by
  unfold State.resolved State.joined
  rw [identity, n, chooseRestored_congr n h]
  split <;> rfl

/-- The Resolver's results follow the mode, the own position, N, and the conditions and actions of the table (R100). -/
theorem resolved_congr {s t : State} (identity : t.identity = s.identity) (n : t.ringMap.n = s.ringMap.n)
    (conditions : TablesAgree Entry.condition s t) (actions : TablesAgree Entry.action s t) : t.resolved = s.resolved := by
  unfold State.resolved State.joined
  rw [identity, n, chooseRestored_congr n conditions, quiet_congr actions]

/-- In a ring of two nodes or more the position across a span is another one. -/
theorem neighbourOf_ne {n p : Nat} (size : 2 ≤ n) (below : p < n) (x : Side) : neighbourOf n p x ≠ p := by
  cases x with
  | east =>
    show (p + 1) % n ≠ p
    rcases Nat.lt_or_ge (p + 1) n with lt | ge
    · rw [Nat.mod_eq_of_lt lt]
      omega
    · rw [show p + 1 = n by omega, Nat.mod_self]
      omega
  | west =>
    show (p + n - 1) % n ≠ p
    rcases Nat.eq_zero_or_pos p with zero | pos
    · rw [Nat.mod_eq_of_lt (by omega)]
      omega
    · rw [show p + n - 1 = p - 1 + n by omega, Nat.add_mod_right, Nat.mod_eq_of_lt (by omega)]
      omega

/-- There the far end of a span is a remote entry, whatever the own entries hold (R111). -/
theorem partnerAction_congr {s t : State} (identity : t.identity = s.identity) (n : t.ringMap.n = s.ringMap.n)
    (rct : t.signalling.rct = s.signalling.rct) (size : 2 ≤ s.ringMap.n)
    (position : ∀ p, s.identity.position = some p → p.val < s.ringMap.n) (x : Side) :
    t.partnerAction x = s.partnerAction x := by
  unfold State.partnerAction
  rw [identity, n]
  split
  next p own =>
    unfold State.entry State.joined
    rw [identity, rct, own]
    simp [(neighbourOf_ne size (position p own) x).symm]
  next => rfl

/-! ### One notice (R100, R110) -/

/-- A partner test that has found an answer finds it again (R113, R117, R118). -/
theorem Engine.partnerTest_idem (e : Engine) (a : Action) : (e.partnerTest a).partnerTest a = e.partnerTest a := by
  obtain ⟨p, c, z⟩ := e
  cases p <;> cases a <;> rfl

/-- The engine of a side after a table-change notice: the target change if there is one, then the partner test (R110). -/
def State.engineAfter (s : State) (x : Side) : Engine :=
  ((s.engine.get x).retarget (startUnits s.profile.confirmTimeout) (s.resolver.target.get x)
    (s.resolved.target.get x)).partnerTest (s.partnerAction x)

/-- The own entries with the actions of two engines (R62). -/
def ownWithActions (own : Sides OwnEntry) (e : Sides Engine) : Sides OwnEntry :=
  ⟨{ own.east with action := e.east.phase.action }, { own.west with action := e.west.phase.action }⟩

/-- The part is JOINED in a ring of two nodes or more, no MANUAL command stands. -/
structure Ringed (s : State) : Prop where
  size : 2 ≤ s.ringMap.n
  position : ∀ p, s.identity.position = some p → p.val < s.ringMap.n
  command : ∀ x, (s.condition.get x).command ≠ .manual

theorem Ringed.congr {s t : State} (h : Ringed s) (ringMap : t.ringMap = s.ringMap) (identity : t.identity = s.identity)
    (command : ∀ x, (t.condition.get x).command = (s.condition.get x).command) : Ringed t :=
  ⟨ringMap ▸ h.size, by rw [ringMap, identity]; exact h.position, fun x => command x ▸ h.command x⟩

theorem dropManual_unmanual {s : State} (h : ∀ x, (s.condition.get x).command ≠ .manual) : dropManual s = s := by
  have east : s.condition.east.command ≠ .manual := h .east
  have west : s.condition.west.command ≠ .manual := h .west
  unfold dropManual
  rw [if_neg]
  simp [east, west]

theorem engineNotice_eq (x : Side) (old : Bool) (s : State) :
    engineNotice x old s =
      let e := ((s.engine.get x).retarget (startUnits s.profile.confirmTimeout) old (s.resolver.target.get x)).partnerTest
        (s.partnerAction x)
      { s with
        engine := s.engine.set x e
        signalling := { s.signalling with
          own := s.signalling.own.set x { s.signalling.own.get x with action := e.phase.action } } } := by
  cases x <;> rfl

/-- One pass of a notice: the Resolver's results of the table, then both engines and their actions. -/
theorem noticePass_eq {s : State} (h : Ringed s) :
    noticePass s = { s with
      resolver := s.resolved, engine := ⟨s.engineAfter .east, s.engineAfter .west⟩
      signalling := { s.signalling with
        own := ownWithActions s.signalling.own ⟨s.engineAfter .east, s.engineAfter .west⟩ } } := by
  have east : (recompute s).partnerAction .east = s.partnerAction .east :=
    partnerAction_congr rfl rfl rfl h.size h.position .east
  have west (old : Bool) : (engineNotice .east old (recompute s)).partnerAction .west = s.partnerAction .west :=
    partnerAction_congr (s := s) (t := engineNotice .east old (recompute s)) rfl rfl rfl h.size h.position .west
  unfold noticePass
  dsimp only
  rw [dropManual_unmanual h.command, engineNotice_eq .west, west, engineNotice_eq .east, east]
  rfl

/-- A second pass finds the Resolver's results, but for the ring-quiet flag and the role, and the engines as the first left
them. -/
theorem noticePass_noticePass {s : State} (h : Ringed s) :
    noticePass (noticePass s) = { noticePass s with resolver := (noticePass s).resolved } := by
  have frame := noticePass_frame s
  have identity : (noticePass s).identity = s.identity := by rw [frame]
  have ringMap : (noticePass s).ringMap = s.ringMap := by rw [frame]
  have eq := noticePass_eq h
  have agree : TablesAgree Entry.condition s (noticePass s) :=
    tablesAgree_of_own identity (by rw [frame]) fun x => by rw [eq]; cases x <;> rfl
  have target : (noticePass s).resolver.target = (noticePass s).resolved.target := by
    rw [resolved_target_congr identity (by rw [ringMap]) agree, eq]
  have engine (x : Side) : (noticePass s).engineAfter x = (noticePass s).engine.get x := by
    have partner : (noticePass s).partnerAction x = s.partnerAction x :=
      partnerAction_congr identity (by rw [ringMap]) (by rw [frame]) h.size h.position x
    have after : (noticePass s).engine.get x = s.engineAfter x := by rw [eq]; cases x <;> rfl
    unfold State.engineAfter
    rw [target, (Engine.retarget_spec _ _ _).1, partner, after]
    exact Engine.partnerTest_idem _ _
  rw [noticePass_eq (h.congr ringMap identity fun x => by rw [eq]), engine, engine]
  conv_lhs => rw [eq]
  conv_rhs => rw [eq]
  rfl

/-- The Resolver's results are no part of what it computes them from. -/
theorem setResolver_resolved (s : State) (r : Resolver) : ({ s with resolver := r } : State).resolved = s.resolved :=
  resolved_congr rfl rfl (fun _ _ => ⟨rfl, rfl⟩) fun _ _ => ⟨rfl, rfl⟩

/-- After a notice the Resolver's results are those of the table (R100). -/
theorem tableNotice_resolver {s : State} (h : Ringed s) : (tableNotice s).resolver = (tableNotice s).resolved := by
  have frame := noticePass_frame s
  have eq := noticePass_eq h
  unfold tableNotice
  dsimp only
  split
  next same =>
    have content (x : Side) : ((noticePass s).signalling.own.get x).content = (s.signalling.own.get x).content := by
      unfold State.ownContent at same
      cases x
      · exact congrArg Prod.fst same
      · exact congrArg Prod.snd same
    have resolved : (noticePass s).resolved = s.resolved :=
      resolved_congr (by rw [frame]) (by rw [frame])
        (tablesAgree_of_own (by rw [frame]) (by rw [frame]) fun x => congrArg Prod.fst (content x))
        (tablesAgree_of_own (by rw [frame]) (by rw [frame]) fun x => congrArg Prod.snd (content x))
    rw [resolved, eq]
  next =>
    rw [noticePass_noticePass h]
    exact (setResolver_resolved _ _).symm

end Sys2Proof.Machine

/-! PROOFS. What an accepted LEAVE does (O49). -/

namespace Sys2Proof.Machine

/-! ### A turn that ends with its answer -/

/-- The queues after an answer, where the work between taking the request and answering it left them alone (R157, R158). -/
theorem respond_transmit {s u : State} {q : Port} (transmit : u.transmit = (takeRequest q s).transmit)
    (profile : u.profile = s.profile) (nodeId : u.identity.nodeId = s.identity.nodeId) (c : Cell) (st : Status)
    (words : List Word) : (respond q c st words u).transmit = s.transmitWith q (s.response q c st words) := by
  have answered : (respond q c st words u).transmit = (respond q c st words (takeRequest q s)).transmit := by
    unfold respond State.updateTransmit
    rw [State.setTransmit_transmit, State.setTransmit_transmit, transmit, profile, nodeId]
    rfl
  rw [answered, respond_takeRequest]
  rfl

/-- A turn whose work, up to v, raises no pulse and leaves the Event Unit and the queues alone is reported as R166 to R172
say. -/
theorem answer_reported {s v : State} {q : Port} (sound : EventsSound s) (events : v.events = s.events)
    (transmit : v.transmit = (takeRequest q s).transmit) (profile : v.profile = s.profile)
    (nodeId : v.identity.nodeId = s.identity.nodeId) (c : Cell) (st : Status) :
    Reported s.events 0#32 (s.transmitWith q (s.response q c st [])) (event (fun _ => respond q c st [] v) s) := by
  have same : (respond q c st [] v).events = s.events := events
  have reported := event_reported (fun _ => respond q c st [] v) s (by rw [same]) (by rw [same])
    (by rw [same]; exact ⟨rfl, rfl, rfl, rfl⟩) (by rw [same]) (by rw [same])
  rw [same, sound.pulses, respond_transmit transmit profile nodeId] at reported
  exact reported

/-- A turn touches, besides its work up to v, the own editions, the Event Unit, ALERT_N and the transmit queues. -/
theorem answer_frame (s v : State) (q : Port) (c : Cell) (st : Status) (words : List Word) :
    let t := event (fun _ => respond q c st words v) s
    t = { v with
      signalling := { v.signalling with own := t.signalling.own }, transmit := t.transmit, events := t.events
      alertN := t.alertN } := by
  dsimp only
  conv_lhs => rw [event_frame]
  rfl

/-! ### Detection without a command (R98) -/

/-- A side's conditions with no operator command: the detected condition is announced (R98). -/
def ConditionSide.uncommanded (c : ConditionSide) : ConditionSide :=
  { c with command := .none, announced := c.detected.condition }

theorem ConditionSide.highest_uncommanded {c : ConditionSide} (h : c.command = .none) :
    c.highest false = c.detected.condition := by
  unfold ConditionSide.highest
  rw [h]
  cases c.detected <;> rfl

/-! ### LEAVE (R57, R84; log 15) -/

/-- The Resolver's results while the part is STANDALONE with no entry learned (R100). -/
theorem resolved_standalone {s : State} (alone : s.joined = false)
    (rct : s.signalling.rct = Vector.replicate 64 Entry.unlearned) :
    s.resolved = ⟨0#32, none, true, .detached, ⟨false, false⟩⟩ := by
  have unlearned (p : Nat) (x : Side) : s.entry p x = Entry.unlearned := by
    unfold State.entry
    rw [alone, rct]
    simp only [elementAt, Bool.false_and, Bool.false_eq_true, if_false, Vector.getElem?_replicate]
    split <;> rfl
  have quiet : s.quiet = true := by
    simp [State.quiet, State.anyLearned, unlearned, Entry.learned, Entry.unlearned]
  unfold State.resolved
  rw [alone, quiet]

/-- A part left STANDALONE: the table unlearned, the hold-offs ended, the Resolver in its STANDALONE state (R28, R57, R84,
R100). -/
theorem recompute_standalone (s : State) :
    recompute (((unlearnAll s).setIdentity { s.identity with joined := false, position := none }).setMonitor
      ⟨s.monitor.east.endHoldOff, s.monitor.west.endHoldOff⟩) = { s with
        signalling := { s.signalling with rct := Vector.replicate 64 Entry.unlearned }
        identity := { s.identity with joined := false, position := none }
        monitor := ⟨s.monitor.east.endHoldOff, s.monitor.west.endHoldOff⟩
        resolver := ⟨0#32, none, true, .detached, ⟨false, false⟩⟩ } := by
  unfold recompute
  rw [resolved_standalone rfl rfl]
  rfl

/-- With no command the detected conditions are announced (R98). -/
theorem formAnnounced_eq {s : State} (command : ∀ x, (s.condition.get x).command = .none) (park : s.park = false) :
    formAnnounced s = { s with
      condition := ⟨{ s.condition.east with announced := s.condition.east.detected.condition },
        { s.condition.west with announced := s.condition.west.detected.condition }⟩
      signalling := { s.signalling with
        own := ⟨{ s.signalling.own.east with condition := s.condition.east.detected.condition },
          { s.signalling.own.west with condition := s.condition.west.detected.condition }⟩ } } := by
  have east : s.condition.east.highest s.park = s.condition.east.detected.condition :=
    park ▸ ConditionSide.highest_uncommanded (command .east)
  have west : s.condition.west.highest s.park = s.condition.west.detected.condition :=
    park ▸ ConditionSide.highest_uncommanded (command .west)
  unfold formAnnounced
  dsimp only
  rw [east, west]
  rfl

theorem leaveEffect_eq (s : State) :
    leaveEffect s = { s with
      park := false, condition := ⟨s.condition.east.uncommanded, s.condition.west.uncommanded⟩
      signalling := { s.signalling with
        rct := Vector.replicate 64 Entry.unlearned
        own := ⟨{ s.signalling.own.east with condition := s.condition.east.detected.condition },
          { s.signalling.own.west with condition := s.condition.west.detected.condition }⟩ }
      identity := { s.identity with joined := false, position := none }
      monitor := ⟨s.monitor.east.endHoldOff, s.monitor.west.endHoldOff⟩
      resolver := ⟨0#32, none, true, .detached, ⟨false, false⟩⟩ } := by
  have formed := formAnnounced_eq
    (s := (s.setCondition
      ⟨{ s.condition.east with command := .none }, { s.condition.west with command := .none }⟩).setPark false)
    (fun x => by cases x <;> rfl) rfl
  unfold leaveEffect
  dsimp only
  rw [formed]
  exact recompute_standalone _

/-- The edition after an event whose work left the own edition alone (R63). -/
theorem event_own_eq {f : State → State} {s : State} {x : Side} {condition : Condition} {action : Action}
    (own : (f s).signalling.own.get x = ⟨condition, action, (s.signalling.own.get x).edition⟩) :
    (event f s).signalling.own.get x = ⟨condition, action,
      if (condition, action) = (s.signalling.own.get x).content then (s.signalling.own.get x).edition
      else (s.signalling.own.get x).edition + 1⟩ := by
  rw [event_own, own]
  show (if (condition, action) = (s.signalling.own.get x).content then _ else _) = _
  split <;> rfl

/-- Settles O49: LEAVE touches the commands, the table, the mode, the hold-offs and the Resolver, and the engines are IDLE. -/
theorem leaveTakesEffect : Obligations.LeaveTakesEffect := by
  intro s q c sound events takes accepted
  have pass (x : Side) : (s.signalling.own.get x).action = .pass := by
    rw [(sound.condition x).ownAction, accepted.2 x]
    rfl
  have ran : exec .leave s = .next (event (fun _ => respond q c .done [] (leaveEffect (takeRequest q s))) s) :=
    congrArg _ (turn_accepted (accepted := leaveAccepted) takes ((leaveAccepted_iff s).2 accepted))
  have left := leaveEffect_eq (takeRequest q s)
  generalize leaveEffect (takeRequest q s) = v at *
  have own (x : Side) : v.signalling.own.get x =
      ⟨(s.condition.get x).detected.condition, .pass, (s.signalling.own.get x).edition⟩ := by
    rw [left, ← pass x]
    cases x <;> rfl
  have frame := answer_frame s v q c .done []
  refine ⟨_, ran, ?_, ?_, fun i => ?_, fun x => ⟨?_, ?_, ?_⟩, ?_, ?_, ?_⟩
  · rw [frame, left]
    rfl
  · rw [frame, left]
  · rw [frame, left]
    exact Vector.getElem_replicate _
  · rw [frame, left]
    cases x <;> rfl
  · rw [frame, left]
    cases x <;> rfl
  · rw [event_own_eq (f := fun _ => respond q c .done [] v) (own x), OwnEntry.content, pass x]
    simp
  · rw [frame, left]
  · exact answer_reported events (by rw [left]; rfl) (by rw [left]) (by rw [left]; rfl) (by rw [left]; rfl) c .done
  · conv_lhs => rw [frame, left]
    rw [frame, left]
    rfl

end Sys2Proof.Machine

/-! PROOFS. What an accepted JOIN does (O48). -/

namespace Sys2Proof.Machine

/-! ### Own entries while no operator command stands (R62, R98) -/

/-- A JOINED part in a ring of two nodes or more with no operator command: its own entries hold the actions of the engines, and
`editions` as their editions. -/
structure Uncommanded (editions : Side → Fin 16) (s : State) : Prop where
  size : 2 ≤ s.ringMap.n
  position : ∀ p, s.identity.position = some p → p.val < s.ringMap.n
  command : ∀ x, (s.condition.get x).command = .none
  park : s.park = false
  action : ∀ x, (s.signalling.own.get x).action = (s.engine.get x).phase.action
  edition : ∀ x, (s.signalling.own.get x).edition = editions x

/-- The own entries hold the detected conditions. -/
def DetectionAnnounced (s : State) : Prop :=
  ∀ x, (s.signalling.own.get x).condition = (s.condition.get x).detected.condition

section
variable {e : Side → Fin 16} {s : State}

theorem Uncommanded.ringed (h : Uncommanded e s) : Ringed s :=
  ⟨h.size, h.position, fun x => by rw [h.command x]; nofun⟩

theorem formAnnounced_uncommanded (h : Uncommanded e s) :
    Uncommanded e (formAnnounced s) ∧ DetectionAnnounced (formAnnounced s) := by
  have highest (x : Side) : (s.condition.get x).highest s.park = (s.condition.get x).detected.condition := by
    rw [h.park]
    exact ConditionSide.highest_uncommanded (h.command x)
  refine ⟨⟨h.size, h.position, fun x => ?_, h.park, fun x => ?_, fun x => ?_⟩, fun x => ?_⟩
  · cases x
    · exact h.command .east
    · exact h.command .west
  · cases x
    · exact h.action .east
    · exact h.action .west
  · cases x
    · exact h.edition .east
    · exact h.edition .west
  · cases x
    · exact highest .east
    · exact highest .west

theorem noticePass_uncommanded (h : Uncommanded e s) :
    Uncommanded e (noticePass s) ∧ (DetectionAnnounced s → DetectionAnnounced (noticePass s)) := by
  rw [noticePass_eq h.ringed]
  refine ⟨⟨h.size, h.position, h.command, h.park, fun x => by cases x <;> rfl, fun x => ?_⟩, fun k x => ?_⟩
  · cases x
    · exact h.edition .east
    · exact h.edition .west
  · cases x
    · exact k .east
    · exact k .west

theorem tableNotice_uncommanded (h : Uncommanded e s) :
    Uncommanded e (tableNotice s) ∧ (DetectionAnnounced s → DetectionAnnounced (tableNotice s)) := by
  obtain ⟨first, shown⟩ := noticePass_uncommanded h
  obtain ⟨second, shownAgain⟩ := noticePass_uncommanded first
  unfold tableNotice
  dsimp only
  split
  · exact ⟨first, shown⟩
  · exact ⟨second, shownAgain ∘ shown⟩

theorem announce_uncommanded (h : Uncommanded e s) : Uncommanded e (announce s) ∧ DetectionAnnounced (announce s) := by
  obtain ⟨formed, shown⟩ := formAnnounced_uncommanded h
  obtain ⟨noticed, kept⟩ := tableNotice_uncommanded formed
  unfold announce
  dsimp only
  split
  · exact ⟨noticed, kept shown⟩
  · exact ⟨formed, shown⟩

theorem takeReport_uncommanded (x : Side) (r : Report) (h : Uncommanded e s) :
    Uncommanded e (takeReport x s r) ∧ DetectionAnnounced (takeReport x s r) := by
  refine announce_uncommanded ⟨h.size, h.position, fun y => ?_, h.park, h.action, h.edition⟩
  show ((s.condition.set x _).get y).command = _
  rw [Sides.get_set]
  split
  · dsimp only
    rw [ConditionSide.report_eq]
    exact h.command x
  · exact h.command y

theorem takeReports_uncommanded (x : Side) (rs : List Report) (h : Uncommanded e s) (shown : DetectionAnnounced s) :
    Uncommanded e (rs.foldl (takeReport x) s) ∧ DetectionAnnounced (rs.foldl (takeReport x) s) := by
  induction rs generalizing s with
  | nil => exact ⟨h, shown⟩
  | cons r rs ih =>
    obtain ⟨taken, shown⟩ := takeReport_uncommanded x r h
    exact ih taken shown

end

/-! ### The hold-offs at JOIN (R28) -/

/-- A side's Span Monitor after JOIN: its hold-off is started where its flag is present. -/
def Monitor.started (m : Monitor) (time : Nat) : Monitor :=
  if m.flag then (m.startHoldOff time).1 else m

/-- The reports of the hold-off's start: a standing defect at once where the hold-off time is 0 (R2, R26, R27). -/
def Monitor.startReports (m : Monitor) (time : Nat) : List Report :=
  if m.flag = true ∧ time = 0 then [.standingDefect] else []

theorem joinHoldOff_eq (x : Side) (s : State) :
    joinHoldOff x s = ((s.monitor.get x).startReports s.profile.holdOffTime).foldl (takeReport x)
      (s.setMonitor (s.monitor.set x ((s.monitor.get x).started s.profile.holdOffTime))) := by
  unfold joinHoldOff Monitor.startReports Monitor.started Monitor.startHoldOff
  dsimp only
  cases (s.monitor.get x).flag
  · rw [if_neg nofun, if_neg nofun, if_neg (fun h => absurd h.1 nofun), Sides.set_get]
    rfl
  · rw [if_pos rfl, if_pos rfl]
    by_cases zero : s.profile.holdOffTime = 0 <;> simp [zero]

/-- The hold-off's start on a side moves its Span Monitor, and its detected condition to CUT where the defect stands at once. -/
theorem joinHoldOff_detection (x : Side) (s : State) :
    ((joinHoldOff x s).condition.get x).detection =
        (if (s.monitor.get x).flag = true ∧ s.profile.holdOffTime = 0 then
          (.cut, if (s.condition.get x).detected = .cut then (s.condition.get x).wtr else none)
        else (s.condition.get x).detection) ∧
      ((joinHoldOff x s).condition.get x.other).detection = (s.condition.get x.other).detection ∧
      ManualFollows s (joinHoldOff x s) := by
  rw [joinHoldOff_eq]
  obtain ⟨moved, other, manual⟩ := takeReports_detection x ((s.monitor.get x).startReports s.profile.holdOffTime)
    (s.setMonitor (s.monitor.set x ((s.monitor.get x).started s.profile.holdOffTime)))
  refine ⟨moved.trans ?_, other, manual⟩
  unfold Monitor.startReports
  split
  · exact Report.moves_standingDefect _ _ _
  · rfl

theorem joinHoldOff_uncommanded {e : Side → Fin 16} {s : State} (x : Side) (h : Uncommanded e s)
    (shown : DetectionAnnounced s) :
    Uncommanded e (joinHoldOff x s) ∧ DetectionAnnounced (joinHoldOff x s) := by
  rw [joinHoldOff_eq]
  exact takeReports_uncommanded x _ ⟨h.size, h.position, h.command, h.park, h.action, h.edition⟩ shown

/-! ### JOIN (R56, R83) -/

/-- A JOIN before its hold-offs start: the mode, the own position and the unlearned table (R56). -/
def joining (s : State) : State :=
  (unlearnAll s).setIdentity { s.identity with joined := true, position := s.joinPosition }

theorem joinEffect_eq (s : State) : joinEffect s = tableNotice (joinHoldOff .west (joinHoldOff .east (joining s))) := rfl

/-- Besides the mode, the table and the hold-offs, a JOIN moves what a report's chain can. -/
theorem joinEffect_frame (s : State) :
    RestorationFrame
      { s with
        signalling := { s.signalling with rct := Vector.replicate 64 Entry.unlearned }
        identity := { s.identity with joined := true, position := s.joinPosition }
        monitor := ⟨s.monitor.east.started s.profile.holdOffTime, s.monitor.west.started s.profile.holdOffTime⟩ }
      (joinEffect s) := by
  have east := takeReports_frame .east (((joining s).monitor.get .east).startReports (joining s).profile.holdOffTime)
    ((joining s).setMonitor ((joining s).monitor.set .east
      (((joining s).monitor.get .east).started (joining s).profile.holdOffTime)))
  rw [← joinHoldOff_eq] at east
  rw [joinEffect_eq]
  refine RestorationFrame.trans ?_ (tableNotice_frame _)
  generalize joinHoldOff .east (joining s) = u at *
  have west := takeReports_frame .west ((u.monitor.get .west).startReports u.profile.holdOffTime)
    (u.setMonitor (u.monitor.set .west ((u.monitor.get .west).started u.profile.holdOffTime)))
  rw [← joinHoldOff_eq] at west
  unfold RestorationFrame at *
  rw [west, east]
  rfl

/-- JOIN makes a side CUT where its flag is present and the hold-off time is 0 (R28, R87), and moves commands by a drop
alone. -/
theorem joinEffect_detection (s : State) :
    (∀ x, ((joinEffect s).condition.get x).detection =
      if (s.monitor.get x).flag = true ∧ s.profile.holdOffTime = 0 then
        (.cut, if (s.condition.get x).detected = .cut then (s.condition.get x).wtr else none)
      else (s.condition.get x).detection) ∧
    ManualFollows s (joinEffect s) := by
  rw [joinEffect_eq]
  have east := joinHoldOff_detection .east (joining s)
  have frame := joinHoldOff_frame .east (joining s)
  generalize joinHoldOff .east (joining s) = u at *
  obtain ⟨moved, other, manual⟩ := east
  have west := joinHoldOff_detection .west u
  generalize joinHoldOff .west u = v at *
  obtain ⟨moved', other', manual'⟩ := west
  have kept := tableNotice_detectionKept v
  have noticed (x : Side) : ((tableNotice v).condition.get x).detection = (v.condition.get x).detection :=
    Prod.ext (kept.detected x) (kept.wtr x)
  have monitor : (u.monitor.get .west).flag = (s.monitor.get .west).flag := by
    rw [frame]
    rfl
  have profile : u.profile = s.profile := by
    rw [frame]
    rfl
  have detected : (u.condition.get .west).detected = (s.condition.get .west).detected := congrArg Prod.fst other
  have wtr : (u.condition.get .west).wtr = (s.condition.get .west).wtr := congrArg Prod.snd other
  refine ⟨fun x => (noticed x).trans ?_, (ManualFollows.trans manual manual').trans kept.manual⟩
  cases x with
  | east => exact other'.trans moved
  | west =>
    rw [moved', monitor, profile, detected, wtr]
    exact congrArg (ite _ _) other

/-- The own editions are nothing that the Resolver reads. -/
theorem event_resolved (f : State → State) (s : State) : (event f s).resolved = (f s).resolved := by
  have content (x : Side) : ((event f s).signalling.own.get x).content = ((f s).signalling.own.get x).content := by
    rw [event_own, OwnEntry.advance_content]
  exact resolved_congr (by rw [event_frame]) (by rw [event_frame])
    (tablesAgree_of_own (by rw [event_frame]) (by rw [event_frame]) fun x => congrArg Prod.fst (content x))
    (tablesAgree_of_own (by rw [event_frame]) (by rw [event_frame]) fun x => congrArg Prod.snd (content x))

theorem respond_resolved (q : Port) (c : Cell) (st : Status) (words : List Word) (s : State) :
    (respond q c st words s).resolved = s.resolved :=
  resolved_congr rfl rfl (fun _ _ => ⟨rfl, rfl⟩) fun _ _ => ⟨rfl, rfl⟩

/-- With no MANUAL command there is none to drop, and no pulse (R96). -/
theorem ManualFollows.quiet {s t : State} (h : ManualFollows s t) (none : ∀ y, (s.condition.get y).command ≠ .manual) :
    t.events.pulses = s.events.pulses := by
  rcases h with ⟨-, quiet⟩ | ⟨⟨y, manual⟩, -, -⟩
  · exact quiet
  · exact absurd manual (none y)

section
variable {s : State} {q : Port}

/-- Before a JOIN no command stands, and the own entries follow detection and the engines (R62, R92, R98). -/
theorem joining_uncommanded (sound : ∀ x, ConditionSound s x) (accepted : JoinAccepted s) :
    Uncommanded (fun x => (s.signalling.own.get x).edition) (joining s) ∧ DetectionAnnounced (joining s) := by
  have command (x : Side) := (sound x).commands accepted.mode
  refine ⟨⟨by have := accepted.size.1; exact (by omega : 2 ≤ s.ringMap.n), fun p own => ?_, fun x => (command x).1,
    (command .east).2, fun x => (sound x).ownAction, fun _ => rfl⟩, fun x => ?_⟩
  · obtain ⟨r, found, named⟩ := Option.bind_eq_some_iff.1 (own : s.joinPosition = some p)
    have below : r < 32 := (positionOf_some found).1.trans_le accepted.size.2
    rw [dif_pos below, Option.some.injEq] at named
    exact named ▸ (positionOf_some found).1
  · show (s.signalling.own.get x).condition = (s.condition.get x).detected.condition
    rw [(sound x).ownCondition, (sound x).announced, (command x).2]
    exact ConditionSide.highest_uncommanded (command x).1

/-- What a JOIN leaves: no command, the own entries following detection and the engines, the Resolver's results those of the
table (R62, R98, R100). -/
theorem joinEffect_uncommanded (sound : ∀ x, ConditionSound s x) (accepted : JoinAccepted s) :
    Uncommanded (fun x => (s.signalling.own.get x).edition) (joinEffect s) ∧ DetectionAnnounced (joinEffect s) ∧
      (joinEffect s).resolver = (joinEffect s).resolved := by
  obtain ⟨start, shown⟩ := joining_uncommanded sound accepted
  obtain ⟨east, shownEast⟩ := joinHoldOff_uncommanded .east start shown
  obtain ⟨west, shownWest⟩ := joinHoldOff_uncommanded .west east shownEast
  obtain ⟨noticed, kept⟩ := tableNotice_uncommanded west
  exact ⟨noticed, kept shownWest, tableNotice_resolver west.ringed⟩

/-- Taking a request moves nothing that the conditions are held to. -/
theorem takeRequest_conditionSound {x : Side} (h : ConditionSound s x) : ConditionSound (takeRequest q s) x :=
  ⟨h.wtr, h.announced, h.commands, h.ownCondition, h.ownAction⟩

theorem takeRequest_joinAccepted (h : JoinAccepted s) : JoinAccepted (takeRequest q s) :=
  ⟨h.mode, h.size, h.filled, h.distinct, h.named⟩

/-- The Span Monitor of a side after JOIN; a STANDALONE side without a flag already has its hold-off ABSENT (R26, R28). -/
theorem started_eq {x : Side} (sound : MonitorSound s x) (time : Nat) :
    (s.monitor.get x).started time =
      { s.monitor.get x with
        holdOff := if (s.monitor.get x).flag then if time = 0 then .standing else .holding else .absent
        holdOffTimer := if (s.monitor.get x).flag then if time = 0 then none else some (100 * time) else none } := by
  have absent : (s.monitor.get x).flag = false →
      (s.monitor.get x).holdOff = .absent ∧ (s.monitor.get x).holdOffTimer = none := by
    intro clear
    have gone := sound.absent.2 (.inr clear)
    have stopped := mt sound.holding.1
    rw [gone] at stopped
    exact ⟨gone, by simpa using stopped⟩
  clear sound
  generalize s.monitor.get x = m at *
  obtain ⟨defects, flag, muteCount, holdOff, timer, density, quality, settle⟩ := m
  cases flag with
  | false =>
    obtain ⟨rfl, rfl⟩ := absent rfl
    rfl
  | true => by_cases zero : time = 0 <;> simp [Monitor.started, Monitor.startHoldOff, startUnits, Config.framesPerUnit, zero]

/-- The position that an accepted JOIN fixes holds the node ID in use (R55, R56). -/
theorem joinPosition_spec (accepted : JoinAccepted s) :
    ∃ p : Fin 32, s.joinPosition = some p ∧ p.val < s.ringMap.n ∧
      s.ringMap.ids[p].map (·.val) = some s.identity.nodeId.toNat := by
  have found := (Bool.and_eq_true _ _ ▸ (joinAccepted_iff s).2 accepted).2
  obtain ⟨p, fixed⟩ := Option.isSome_iff_exists.1 found
  obtain ⟨r, own, named⟩ := Option.bind_eq_some_iff.1 fixed
  obtain ⟨below, holds⟩ := positionOf_some own
  rw [dif_pos (below.trans_le accepted.size.2), Option.some.injEq] at named
  subst named
  exact ⟨_, fixed, below, (idAt_fin s.ringMap ⟨r, _⟩) ▸ holds⟩

end

/-- Settles O48: JOIN fixes the position, starts the hold-offs, whose reports and the last notice run with no command
standing. -/
theorem joinTakesEffect : Obligations.JoinTakesEffect := by
  intro s q c sound events monitors takes accepted
  have ran : exec .join s = .next (event (fun _ => respond q c .done [] (joinEffect (takeRequest q s))) s) :=
    congrArg _ (turn_accepted (accepted := joinAccepted) takes ((joinAccepted_iff s).2 accepted))
  have frame := joinEffect_frame (takeRequest q s)
  obtain ⟨detection, manual⟩ := joinEffect_detection (takeRequest q s)
  obtain ⟨settled, shown, resolved⟩ := joinEffect_uncommanded (s := takeRequest q s)
    (fun x => takeRequest_conditionSound (sound.condition x)) (takeRequest_joinAccepted accepted)
  obtain ⟨p, fixed, below, named⟩ := joinPosition_spec accepted
  generalize joinEffect (takeRequest q s) = v at *
  have uncut (x : Side) : (s.condition.get x).detected = .cut → (s.condition.get x).wtr = none := by
    intro cut
    have stopped := mt (sound.condition x).wtr.1
    rw [cut] at stopped
    simpa using stopped
  have pulses : v.events = s.events := by
    rw [frame, manual.quiet fun x => ne_of_eq_of_ne ((sound.condition x).commands accepted.mode).1 nofun]
    rfl
  have own (x : Side) := event_own_eq (f := fun _ => respond q c .done [] v) (s := s) (x := x)
    (congrArg (OwnEntry.mk _ _) (settled.edition x))
  have turned := answer_frame s v q c .done []
  refine ⟨_, ran, ⟨p, below, named, ?_⟩, fun i => ?_, fun x => ⟨?_, ?_, ?_, ?_, ?_, ?_, ?_⟩, ?_, ?_, ?_⟩
  · rw [turned, frame, ← fixed]
    rfl
  · rw [turned, frame]
    exact Vector.getElem_replicate _
  · rw [turned, frame, ← started_eq (monitors x)]
    cases x <;> rfl
  · rw [turned]
    exact (congrArg Prod.fst (detection x)).trans (apply_ite Prod.fst _ _ _)
  · rw [turned]
    refine (congrArg Prod.snd (detection x)).trans ((apply_ite Prod.snd _ _ _).trans (if_congr Iff.rfl ?_ rfl))
    exact (ite_eq_right_iff (p := (s.condition.get x).detected = .cut)).2 (uncut x)
  · rw [turned]
    exact settled.command x
  · rw [own, turned]
    exact shown x
  · rw [own, turned]
    exact settled.action x
  · rw [own]
    rfl
  · rw [event_resolved, respond_resolved, turned]
    exact resolved
  · exact answer_reported events pulses (by rw [frame]) (by rw [frame]; rfl) (by rw [frame]; rfl) c .done
  · conv_lhs => rw [turned, frame]
    rw [turned, frame]
    rfl

end Sys2Proof.Machine

/-! PROOFS. What only few commands may move: the strap value, the mode, the map, the active banks, the remote entries, and
the fall of a counter or a latch (O52). -/

namespace Sys2Proof.Machine

/-! ### What is moved by few commands -/

/-- The parts of the state that only few commands may move. -/
inductive Guarded
  | strap
  | mode
  | map
  | banks
  | remote
  | fall
  deriving DecidableEq

/-- A part stands from s to t; of the counters and latches, that none falls. -/
def Guarded.Stands (s t : State) : Guarded → Prop
  | strap => t.identity.strap = s.identity.strap
  | mode => t.joined = s.joined
  | map => t.identity.nodeId = s.identity.nodeId ∧ t.ringMap = s.ringMap ∧ t.profile = s.profile
  | banks => t.tables.slot.active = s.tables.slot.active ∧ t.tables.extra.active = s.tables.extra.active ∧
      t.tables.circuit.active = s.tables.circuit.active
  | remote => t.signalling.rct = s.signalling.rct
  | fall => (∀ k, (s.count k).toNat ≤ (t.count k).toNat) ∧
      ∀ i : Fin 32, s.events.latches.getLsbD i = true → t.events.latches.getLsbD i = true

/-- From s to t every part stands but those of `moved`. -/
def StandsBut (moved : List Guarded) (s t : State) : Prop :=
  ∀ g ∉ moved, g.Stands s t

section
variable {moved : List Guarded} {s t u : State}

theorem StandsBut.refl (moved : List Guarded) (s : State) : StandsBut moved s s := by
  intro g _
  cases g with
  | strap | mode | remote => rfl
  | map | banks => exact ⟨rfl, rfl, rfl⟩
  | fall => exact ⟨fun _ => le_rfl, fun _ => id⟩

theorem StandsBut.trans (h : StandsBut moved s t) (k : StandsBut moved t u) : StandsBut moved s u := by
  intro g free
  have first := h g free
  have second := k g free
  cases g with
  | strap | mode | remote => exact Eq.trans second first
  | map | banks =>
    obtain ⟨a, b, c⟩ := first
    obtain ⟨a', b', c'⟩ := second
    exact ⟨a'.trans a, b'.trans b, c'.trans c⟩
  | fall => exact ⟨fun k => (first.1 k).trans (second.1 k), fun i => second.2 i ∘ first.2 i⟩

theorem StandsBut.mono (h : StandsBut [] s t) (moved : List Guarded) : StandsBut moved s t :=
  fun g _ => h g List.not_mem_nil

theorem StandsBut.guarded {p : Prop} [Decidable p] (h : StandsBut moved s t) : StandsBut moved s (if p then t else s) := by
  split
  · exact h
  · exact .refl moved s

/-- Work that touches none of the guarded parts. -/
theorem StandsBut.of_elsewhere (moved : List Guarded) (frame : t = { t with
      identity := s.identity, ringMap := s.ringMap, profile := s.profile, counters := s.counters
      tables := { t.tables with
        slot := ⟨t.tables.slot.standby, s.tables.slot.active⟩, extra := ⟨t.tables.extra.standby, s.tables.extra.active⟩
        circuit := ⟨t.tables.circuit.standby, s.tables.circuit.active⟩ }
      signalling := { t.signalling with rct := s.signalling.rct }
      events := { t.events with latches := s.events.latches } }) : StandsBut moved s t := by
  intro g _
  cases g with
  | strap | remote => rw [Guarded.Stands, frame]
  | mode => rw [Guarded.Stands, frame]; rfl
  | map | banks => rw [frame]; exact ⟨rfl, rfl, rfl⟩
  | fall => rw [frame]; exact ⟨fun _ => le_rfl, fun _ => id⟩

theorem LineWork.standsBut (h : LineWork s t) : StandsBut [.remote] s t := by
  intro g free
  have frame := h.frame
  cases g with
  | strap => rw [Guarded.Stands, frame]
  | mode => rw [Guarded.Stands, frame]; rfl
  | map | banks => rw [frame]; exact ⟨rfl, rfl, rfl⟩
  | remote => exact absurd (List.mem_singleton.2 rfl) free
  | fall => exact ⟨h.counters, by rw [frame]; exact fun _ => id⟩

theorem RingWork.standsBut (h : RingWork s t) : StandsBut [] s t := by
  intro g _
  by_cases remote : g = .remote
  · rw [remote]
    exact h.rct
  · exact h.toLineWork.standsBut g (by simpa using remote)

/-! ### The end of an event -/

theorem promptNotice_standsBut (s : State) : StandsBut [] s (promptNotice s) :=
  .of_elsewhere [] (by rw [promptNotice_frame])

theorem latched_standsBut (s : State) : StandsBut [] s (latched s) := by
  intro g _
  cases g with
  | strap | mode | remote => rfl
  | map | banks => exact ⟨rfl, rfl, rfl⟩
  | fall =>
    refine ⟨fun _ => le_rfl, fun i set => ?_⟩
    show (s.events.latches ||| _).getLsbD i = true
    rw [BitVec.getLsbD_or, set, Bool.true_or]

theorem observe_standsBut (s : State) : StandsBut [] s (observe s) := by
  rw [observe_eq]
  split
  · exact (latched_standsBut s).trans (.of_elsewhere [] rfl)
  · exact ((latched_standsBut s).trans (promptNotice_standsBut _)).trans (.of_elsewhere [] rfl)

/-- The end of an event moves none of the guarded parts. -/
theorem StandsBut.event {f : State → State} (h : StandsBut moved s (f s)) : StandsBut moved s (event f s) := by
  have advanced : StandsBut moved (f s) (advanceEditions s (f s)) := .of_elsewhere moved rfl
  exact (h.trans advanced).trans ((observe_standsBut _).mono moved)

theorem StandsBut.readClearEvent {f : State → State} (h : StandsBut moved s (f s)) :
    StandsBut moved s (readClearEvent f s) := by
  have advanced : StandsBut moved (f s) (advanceEditions s (f s)) := .of_elsewhere moved rfl
  have alerted (u : State) : StandsBut moved u (formAlert u) := .of_elsewhere moved rfl
  exact ((h.trans advanced).trans ((latched_standsBut _).mono moved)).trans (alerted _)

theorem RingWork.event_standsBut {f : State → State} (h : RingWork s (f s)) : StandsBut [] s (event f s) := h.standsBut.event

end

/-! ### Frames and cells -/

section
variable (s : State)

theorem transitDrop_standsBut : StandsBut [] s (transitDrop s) :=
  ((bump_ringWork s _ 1).trans (raise_ringWork _ _)).standsBut

theorem queueCell_standsBut (q : Port) (c : Cell) : StandsBut [] s (queueCell q c s) := by
  unfold queueCell
  split
  · exact .of_elsewhere [] rfl
  · exact transitDrop_standsBut s

theorem queueRequest_standsBut (q : Port) (c : Cell) : StandsBut [] s (queueRequest q c s) := by
  unfold queueRequest
  split
  · exact .of_elsewhere [] rfl
  · exact ((bump_ringWork s _ 1).trans (raise_ringWork _ _)).standsBut

theorem routeLineCell_standsBut (x : Side) (c : Cell) : StandsBut [] s (routeLineCell x c s) :=
  routeLineCell_induction x c s (.refl [] s) (fun k => (bump_ringWork s k 1).standsBut) (transitDrop_standsBut s)
    (queueRequest_standsBut s) (queueCell_standsBut s)

theorem routeTributaryCell_standsBut (c : Cell) : StandsBut [] s (routeTributaryCell c s) :=
  routeTributaryCell_induction c s (.refl [] s) (fun k => (bump_ringWork s k 1).standsBut) (queueRequest_standsBut s)
    (queueCell_standsBut s)

theorem frameArrival_standsBut (x : Side) (f : LineFrame) (order : ArrivalOrder) :
    StandsBut [.remote] s (frameArrival x f order s) := by
  rw [frameArrival_eq]
  exact (arrivalWork_lineWork x f order s).standsBut.trans ((routeLineCell_standsBut _ x f.management.cell).mono _).guarded

theorem tributaryArrival_standsBut (f : TributaryFrame) : StandsBut [] s (tributaryArrival f s) := by
  have held : StandsBut [] s (s.setHolder (some f.slots)) := .of_elsewhere [] rfl
  exact (held.trans (routeTributaryCell_standsBut _ f.management.cell).guarded).guarded

theorem issueFrameStart_standsBut : StandsBut [] s (issueFrameStart s) := .of_elsewhere [] rfl

theorem removeCell_standsBut (q : Port) : StandsBut [] s (removeCell q s) := .of_elsewhere [] (by rw [removeCell_frame])

theorem buildFrames_standsBut : StandsBut [] s (buildFrames s) := by
  have squelched : StandsBut [] s (s.setSquelch s.squelchTests) := .of_elsewhere [] rfl
  have read := squelched.trans ((readBuffer_ringWork .east _).trans (readBuffer_ringWork .west _)).standsBut
  have begun (f : SentFrames) (v : FrameInstant) :=
    read.trans (.of_elsewhere (t := beginFrames f ((State.setHolder _ none).setInstant v)) [] rfl)
  exact (((begun _ _).trans (removeCell_standsBut _ .east)).trans (removeCell_standsBut _ .west)).trans
    (removeCell_standsBut _ .tributary)

theorem resetFrameStart_standsBut (part : FrameStartPart) : StandsBut [] s (resetFrameStart part s) := by
  cases part with
  | issue => exact .refl [] s
  | frames => exact .of_elsewhere [] rfl

theorem sendAttempt_standsBut : StandsBut [] s (sendAttempt s) := by
  unfold sendAttempt
  split <;> exact .of_elsewhere [] rfl

theorem losInReset_standsBut (x : Side) (v : Bool) : StandsBut [] s (losInReset x v s) := .of_elsewhere [] rfl

/-! ### What falls due at a local frame start -/

theorem takeHoldOffExpiry_standsBut (x : Side) : StandsBut [] s (takeHoldOffExpiry x s) :=
  (holdOffExpires_ringWork x s).event_standsBut.guarded

theorem takeSettleMaskExpiry_standsBut (x : Side) : StandsBut [] s (takeSettleMaskExpiry x s) :=
  (settleExpires_ringWork x s).event_standsBut.guarded

theorem takeWtrExpiry_standsBut (x : Side) : StandsBut [] s (takeWtrExpiry x s) :=
  (wtrExpires_ringWork x s).event_standsBut.guarded

theorem takeConfirmTimerExpiry_standsBut (x : Side) : StandsBut [] s (takeConfirmTimerExpiry x s) :=
  (confirmExpires_ringWork x s).event_standsBut.guarded

theorem swapTables_standsBut (pc : PendingCommit) : StandsBut [.banks] s (swapTables pc s) := by
  intro g free
  cases g with
  | strap | mode | remote => rfl
  | map => exact ⟨rfl, rfl, rfl⟩
  | banks => exact absurd (List.mem_singleton.2 rfl) free
  | fall => exact ⟨fun _ => le_rfl, fun _ => id⟩

theorem takeSwap_standsBut : StandsBut [.banks] s (takeSwap s) := by
  rcases takeSwap_cases s with same | ⟨pc, -, -, -, eq⟩
  · rw [same]
    exact .refl _ s
  · rw [eq]
    exact (swapTables_standsBut s pc).event

theorem takeOverdue_standsBut : StandsBut [.banks] s (takeOverdue s) :=
  takeOverdue_induction s (.refl _ s) (fun x u h => h.trans ((takeHoldOffExpiry_standsBut u x).mono _))
    (fun x u h => h.trans ((takeSettleMaskExpiry_standsBut u x).mono _))
    (fun x u h => h.trans ((takeWtrExpiry_standsBut u x).mono _))
    (fun x u h => h.trans ((takeConfirmTimerExpiry_standsBut u x).mono _)) fun u h => h.trans (takeSwap_standsBut u)

theorem frameStart_standsBut (part : FrameStartPart) : StandsBut [.banks] s (frameStart part s) := by
  unfold frameStart
  split
  · exact .refl _ s
  · exact (takeOverdue_standsBut s).trans ((issueFrameStart_standsBut _).event.mono _)
  · exact (buildFrames_standsBut s).event.mono _
  · exact (takeOverdue_standsBut s).trans (StandsBut.mono (StandsBut.event (f := fun s => buildFrames (issueFrameStart s))
      ((issueFrameStart_standsBut _).trans (buildFrames_standsBut _))) _)

/-! ### Services of the Agent -/

theorem respond_standsBut (moved : List Guarded) (q : Port) (c : Cell) (st : Status) (words : List Word) :
    StandsBut moved s (respond q c st words s) := .of_elsewhere moved rfl

theorem StoredFrame.standsBut {s t : State} (frame : StoredFrame s t) : StandsBut [.map] s t := by
  intro g free
  cases g with
  | strap | remote => rw [Guarded.Stands, frame]
  | mode => rw [Guarded.Stands, frame]; rfl
  | map => exact absurd (List.mem_singleton.2 rfl) free
  | banks => rw [frame]; exact ⟨rfl, rfl, rfl⟩
  | fall => rw [frame]; exact ⟨fun _ => le_rfl, fun _ => id⟩

theorem countRetry_standsBut : StandsBut [] s (countRetry s) :=
  (bump_ringWork s .retries 1).standsBut.trans (.of_elsewhere [] rfl)

theorem clearCounters_frame (index count : Nat) :
    let t := clearCounters index count s
    t = { s with counters := t.counters, tables := { s.tables with retryFlag := t.tables.retryFlag } } := by
  unfold clearCounters
  dsimp only
  split <;> rfl

theorem clearRead_standsBut (table index count : Nat) : StandsBut [.fall] s (clearRead table index count s) := by
  have frame := clearCounters_frame s index count
  have counters : StandsBut [.fall] s (clearCounters index count s) := by
    intro g free
    cases g with
    | strap | remote => rw [Guarded.Stands, frame]
    | mode => rw [Guarded.Stands, frame]; rfl
    | map | banks => rw [frame]; exact ⟨rfl, rfl, rfl⟩
    | fall => exact absurd (List.mem_singleton.2 rfl) free
  have latches : StandsBut [.fall] s (s.setEvents { s.events with latches := 0#32 }) := by
    intro g free
    cases g with
    | strap | mode | remote => rfl
    | map | banks => exact ⟨rfl, rfl, rfl⟩
    | fall => exact absurd (List.mem_singleton.2 rfl) free
  unfold clearRead
  split
  · exact counters
  · exact latches.guarded

theorem joinEffect_standsBut : StandsBut [.mode, .remote] s (joinEffect s) := by
  have fixed : StandsBut [.mode, .remote] s (joining s) := by
    intro g free
    cases g with
    | strap => rfl
    | mode | remote => simp at free
    | map | banks => exact ⟨rfl, rfl, rfl⟩
    | fall => exact ⟨fun _ => le_rfl, fun _ => id⟩
  rw [joinEffect_eq]
  exact fixed.trans ((((joinHoldOff_ringWork .east _).trans (joinHoldOff_ringWork .west _)).trans
    (tableNotice_ringWork _)).standsBut.mono _)

theorem leaveEffect_standsBut : StandsBut [.mode, .remote] s (leaveEffect s) := by
  rw [leaveEffect_eq]
  intro g free
  cases g with
  | strap => rfl
  | mode | remote => simp at free
  | map | banks => exact ⟨rfl, rfl, rfl⟩
  | fall => exact ⟨fun _ => le_rfl, fun _ => id⟩

end

/-! ### Turns -/

section
variable {moved : List Guarded} {serve : Port → Cell → State → State}

theorem checked_standsBut (h : ∀ q c s, StandsBut moved s (serve q c s)) (q : Port) (c : Cell) (s : State) :
    StandsBut moved s (checked serve q c s) := by
  unfold checked
  split
  · exact h q c s
  · exact respond_standsBut s moved q c _ _

theorem addressed_standsBut (h : ∀ q c s, StandsBut moved s (serve q c s)) (q : Port) (c : Cell) (s : State) :
    StandsBut moved s (addressed serve q c s) := by
  unfold addressed
  split
  · exact respond_standsBut s moved q c _ _
  · exact h q c s

theorem serveRead_standsBut (q : Port) (c : Cell) (s : State) : StandsBut [] s (serveRead q c s) := by
  unfold serveRead
  split <;> exact respond_standsBut s [] q c _ _

theorem serveWrite_standsBut (form : Word → Word → Word) (q : Port) (c : Cell) (s : State) :
    StandsBut [.map] s (serveWrite form q c s) := by
  unfold serveWrite
  dsimp only
  split
  next => exact (storeWords_stored s _ _ _).standsBut.trans (respond_standsBut _ _ q c _ _)
  next => exact ((countRetry_standsBut s).mono _).trans (respond_standsBut _ _ q c _ _)
  next => exact respond_standsBut s _ q c _ _

theorem serveReadClear_standsBut (q : Port) (c : Cell) (s : State) : StandsBut [.fall] s (serveReadClear q c s) := by
  unfold serveReadClear
  split
  · exact (clearRead_standsBut s _ _ _).trans (respond_standsBut _ _ q c _ _)
  · exact respond_standsBut s _ q c _ _

theorem serveCommit_standsBut (q : Port) (c : Cell) (s : State) : StandsBut [] s (serveCommit q c s) := by
  unfold serveCommit
  split
  · exact (countRetry_standsBut s).trans (respond_standsBut _ _ q c _ _)
  · split
    · exact .of_elsewhere [] rfl
    · exact respond_standsBut s _ q c _ _

theorem turn_standsBut (kind : Request) (h : ∀ q c s, StandsBut moved s (serve q c s)) (s : State) :
    StandsBut moved s (turn kind serve s) := by
  have taken (q : Port) : StandsBut moved s (takeRequest q s) := .of_elsewhere moved rfl
  unfold turn turnAs
  split
  next q c _ =>
    refine StandsBut.guarded (StandsBut.event ?_)
    exact (taken q).trans (h q c _)
  next => exact .refl moved s

theorem turnReadClear_standsBut (s : State) :
    StandsBut [.fall] s (turnAs readClearEvent .readClear (checked (addressed serveReadClear)) s) := by
  have taken (q : Port) : StandsBut [.fall] s (takeRequest q s) := .of_elsewhere _ rfl
  unfold turnAs
  split
  next q c _ =>
    refine StandsBut.guarded (StandsBut.readClearEvent ?_)
    exact (taken q).trans (checked_standsBut (addressed_standsBut serveReadClear_standsBut) q c _)
  next => exact .refl _ s

theorem command_standsBut (kind : Request) (accepted : State → Bool) {effect : State → State}
    (h : ∀ s, StandsBut moved s (effect s)) (s : State) :
    StandsBut moved s (turn kind (checked (serveCommand accepted effect)) s) := by
  refine turn_standsBut kind (checked_standsBut fun q c s => ?_) s
  unfold serveCommand
  split
  · exact (h s).trans (respond_standsBut _ _ q c _ _)
  · exact respond_standsBut s _ q c _ _

end

/-! ### Every command -/

/-- What each command may move of the guarded parts; the resets are not asked. -/
def Instr.moves : Instr → List Guarded
  | .join | .leave => [.mode, .remote]
  | .write | .set | .clear => [.map]
  | .commitSwap | .localFrameStart _ => [.banks]
  | .alignedFrameArrival _ _ _ => [.remote]
  | .readClear => [.fall]
  | _ => []

theorem exec_standsBut (c : Instr) (s : State) (stays : ¬c.resets) :
    ∃ t, exec c s = .next t ∧ StandsBut (Instr.moves c) s t := by
  cases c with
  | resetNAssert => exact absurd (.inl rfl) stays
  | resetNRelease straps => exact absurd (.inr ⟨straps, .inl rfl⟩) stays
  | restart straps => exact absurd (.inr ⟨straps, .inr rfl⟩) stays
  | localFrameStart part =>
    refine ⟨_, rfl, ?_⟩
    split
    · exact frameStart_standsBut s part
    · exact (resetFrameStart_standsBut s part).mono _
  | commitSwap => exact ⟨_, rfl, takeSwap_standsBut s⟩
  | losAssert x =>
    refine ⟨_, rfl, ?_⟩
    split
    · exact .refl _ s
    · split
      · exact (losRises_ringWork x s).event_standsBut
      · exact losInReset_standsBut s x true
  | losRelease x =>
    refine ⟨_, rfl, ?_⟩
    split
    · exact .refl _ s
    · split
      · exact (losFalls_ringWork x s).event_standsBut
      · exact losInReset_standsBut s x false
  | alignmentWordFound x => exact ⟨_, rfl, (RingWork.of_untimed rfl).event_standsBut.guarded⟩
  | presyncWordCheck x word => exact ⟨_, rfl, (presyncWord_ringWork x word s).event_standsBut.guarded⟩
  | alignedWordCheck x word => exact ⟨_, rfl, (alignedWord_ringWork x word s).event_standsBut.guarded⟩
  | alignedFrameArrival x frame order => exact ⟨_, rfl, (frameArrival_standsBut s x frame order).event.guarded⟩
  | holdOffExpiry x => exact ⟨_, rfl, takeHoldOffExpiry_standsBut s x⟩
  | settleMaskExpiry x => exact ⟨_, rfl, takeSettleMaskExpiry_standsBut s x⟩
  | wtrExpiry x => exact ⟨_, rfl, takeWtrExpiry_standsBut s x⟩
  | confirmTimerExpiry x => exact ⟨_, rfl, takeConfirmTimerExpiry_standsBut s x⟩
  | tributaryFrameArrival frame => exact ⟨_, rfl, (tributaryArrival_standsBut s frame).event.guarded⟩
  | read => exact ⟨_, rfl, turn_standsBut _ (checked_standsBut (addressed_standsBut serveRead_standsBut)) s⟩
  | write => exact ⟨_, rfl, turn_standsBut _ (checked_standsBut (addressed_standsBut (serveWrite_standsBut _))) s⟩
  | set => exact ⟨_, rfl, turn_standsBut _ (checked_standsBut (addressed_standsBut (serveWrite_standsBut _))) s⟩
  | clear => exact ⟨_, rfl, turn_standsBut _ (checked_standsBut (addressed_standsBut (serveWrite_standsBut _))) s⟩
  | readClear => exact ⟨_, rfl, turnReadClear_standsBut s⟩
  | commit => exact ⟨_, rfl, turn_standsBut _ (checked_standsBut serveCommit_standsBut) s⟩
  | poll => exact ⟨_, rfl, turn_standsBut _ (checked_standsBut fun q c s => respond_standsBut s [] q c _ _) s⟩
  | forceEast => exact ⟨_, rfl, command_standsBut _ _ (fun u => (setCommand_ringWork .east .force u).standsBut) s⟩
  | forceWest => exact ⟨_, rfl, command_standsBut _ _ (fun u => (setCommand_ringWork .west .force u).standsBut) s⟩
  | manualEast => exact ⟨_, rfl, command_standsBut _ _ (fun u => (setCommand_ringWork .east .manual u).standsBut) s⟩
  | manualWest => exact ⟨_, rfl, command_standsBut _ _ (fun u => (setCommand_ringWork .west .manual u).standsBut) s⟩
  | park => exact ⟨_, rfl, command_standsBut _ _ (fun u => (setParkCommand_ringWork true u).standsBut) s⟩
  | clearPark => exact ⟨_, rfl, command_standsBut _ _ (fun u => (setParkCommand_ringWork false u).standsBut) s⟩
  | clearEast => exact ⟨_, rfl, command_standsBut _ _ (fun u => (clearSide_ringWork .east u).standsBut) s⟩
  | clearWest => exact ⟨_, rfl, command_standsBut _ _ (fun u => (clearSide_ringWork .west u).standsBut) s⟩
  | join => exact ⟨_, rfl, command_standsBut _ _ joinEffect_standsBut s⟩
  | leave => exact ⟨_, rfl, command_standsBut _ _ leaveEffect_standsBut s⟩
  | noticeSendAttempt => exact ⟨_, rfl, (sendAttempt_standsBut s).event.guarded⟩
  | unknownOperation | unknownCommand =>
    exact ⟨_, rfl, turn_standsBut _ (checked_standsBut fun q c s => respond_standsBut s [] q c _ _) s⟩

/-! ### A JOINED part's map, and the swap (R48, R51, R137) -/

/-- From s to t the identity and the Ring Map stand. -/
def MapHeld (s t : State) : Prop :=
  t.identity = s.identity ∧ t.ringMap = s.ringMap

theorem MapHeld.trans {s t u : State} (h : MapHeld s t) (k : MapHeld t u) : MapHeld s u :=
  ⟨k.1.trans h.1, k.2.trans h.2⟩

/-- While the part is JOINED no word stored moves the node ID in use or the Ring Map (R48, R51). -/
theorem storeWord_mapHeld {s : State} {table i : Nat} {w : Word} (h : Storable s table i w) (joined : s.joined = true) :
    MapHeld s (storeWord s table i w) := by
  obtain ⟨-, -, writable, unprotected, -⟩ := h
  unfold storeWord
  split
  · simp [writeProtected, joined] at unprotected
  · exact ⟨rfl, rfl⟩
  · simp [refusesWrites, joined] at writable
  · split <;> exact ⟨rfl, rfl⟩
  · split <;> exact ⟨rfl, rfl⟩
  · split <;> exact ⟨rfl, rfl⟩
  · exact ⟨rfl, rfl⟩
  · exact ⟨rfl, rfl⟩

theorem storeWords_mapHeld {s : State} {table index : Nat} {words : List Word}
    (passed : writeStatus s table index words = .done) (joined : s.joined = true) :
    MapHeld s (storeWords s table index words) := by
  refine storeWords_induction (P := MapHeld s) passed ⟨rfl, rfl⟩ fun u i w _ storable held => ?_
  have still : u.joined = true := by
    rw [State.joined, held.1]
    exact joined
  exact held.trans (storeWord_mapHeld storable still)

theorem respond_mapHeld (q : Port) (c : Cell) (st : Status) (words : List Word) (s : State) :
    MapHeld s (respond q c st words s) := ⟨rfl, rfl⟩

theorem serveWrite_mapHeld (form : Word → Word → Word) (q : Port) (c : Cell) {s : State} (joined : s.joined = true) :
    MapHeld s (checked (addressed (serveWrite form)) q c s) := by
  unfold checked addressed serveWrite
  split
  · split
    · exact respond_mapHeld q c _ _ s
    · dsimp only
      split
      next passed => exact (storeWords_mapHeld passed joined).trans (respond_mapHeld q c _ _ _)
      next => exact MapHeld.trans ⟨rfl, rfl⟩ (respond_mapHeld q c _ _ (countRetry s))
      next => exact respond_mapHeld q c _ _ s
  · exact respond_mapHeld q c _ _ s

theorem writeTurn_mapHeld (kind : Request) (form : Word → Word → Word) {s : State} (joined : s.joined = true) :
    MapHeld s (turn kind (checked (addressed (serveWrite form))) s) := by
  have ended (f : State → State) : MapHeld (f s) (event f s) := by
    unfold MapHeld
    rw [event_frame]
    exact ⟨rfl, rfl⟩
  unfold turn turnAs
  split
  next q c _ =>
    split
    · exact (MapHeld.trans ⟨rfl, rfl⟩ (serveWrite_mapHeld form q c (s := takeRequest q s) joined)).trans (ended _)
    · exact ⟨rfl, rfl⟩
  next => exact ⟨rfl, rfl⟩

/-! ### No swap without a pending COMMIT and a local frame start to take (R137) -/

/-- From s to t the connection tables stand, and the local frame start at hand. -/
def TablesHeld (s t : State) : Prop :=
  t.tables = s.tables ∧ t.instant = s.instant

theorem TablesHeld.trans {s t u : State} (h : TablesHeld s t) (k : TablesHeld t u) : TablesHeld s u :=
  ⟨k.1.trans h.1, k.2.trans h.2⟩

theorem RingWork.event_tablesHeld {f : State → State} {s : State} (h : RingWork s (f s)) {p : Prop} [Decidable p] :
    TablesHeld s (if p then event f s else s) := by
  split
  · unfold TablesHeld
    rw [event_frame]
    dsimp only
    rw [h.frame]
    exact ⟨rfl, rfl⟩
  · exact ⟨rfl, rfl⟩

section
variable {s : State} (idle : s.tables.commit = none ∨ s.instant.swapTurn = false)
include idle

theorem takeSwap_idle : takeSwap s = s := by
  rcases takeSwap_cases s with same | ⟨pc, pending, -, turn, -⟩
  · exact same
  · rw [pending, turn] at idle
    rcases idle with h | h <;> contradiction

theorem takeOverdue_idle : TablesHeld s (takeOverdue s) :=
  takeOverdue_induction (P := TablesHeld s) s ⟨rfl, rfl⟩
    (fun x u h => h.trans (holdOffExpires_ringWork x u).event_tablesHeld)
    (fun x u h => h.trans (settleExpires_ringWork x u).event_tablesHeld)
    (fun x u h => h.trans (wtrExpires_ringWork x u).event_tablesHeld)
    (fun x u h => h.trans (confirmExpires_ringWork x u).event_tablesHeld) fun u h => by
      rw [takeSwap_idle (h.1 ▸ h.2 ▸ idle)]
      exact h

theorem frameStart_idle (part : FrameStartPart) : Guarded.banks.Stands s (frameStart part s) := by
  have free : Guarded.banks ∉ ([] : List Guarded) := List.not_mem_nil
  have overdue : Guarded.banks.Stands s (takeOverdue s) := by
    rw [Guarded.Stands, (takeOverdue_idle idle).1]
    exact ⟨rfl, rfl, rfl⟩
  have after {u : State} (h : StandsBut [] (takeOverdue s) u) : Guarded.banks.Stands s u := by
    obtain ⟨slot, extra, circuit⟩ := overdue
    obtain ⟨slot', extra', circuit'⟩ := h .banks free
    exact ⟨slot'.trans slot, extra'.trans extra, circuit'.trans circuit⟩
  unfold frameStart
  split
  · exact ⟨rfl, rfl, rfl⟩
  · exact after (issueFrameStart_standsBut _).event
  · exact (buildFrames_standsBut s).event .banks free
  · exact after (StandsBut.event (f := fun s => buildFrames (issueFrameStart s))
      ((issueFrameStart_standsBut _).trans (buildFrames_standsBut _)))

end

/-! ### What the commands move, read the other way -/

theorem strap_not_mem_moves (c : Instr) : Guarded.strap ∉ Instr.moves c := by
  cases c <;> simp [Instr.moves]

theorem mode_mem_moves {c : Instr} (h : Guarded.mode ∈ Instr.moves c) : c = .join ∨ c = .leave := by
  cases c <;> simp [Instr.moves] at h ⊢

theorem map_mem_moves {c : Instr} (h : Guarded.map ∈ Instr.moves c) : c ∈ [Instr.write, .set, .clear] := by
  cases c <;> simp [Instr.moves] at h ⊢

theorem banks_mem_moves {c : Instr} (h : Guarded.banks ∈ Instr.moves c) :
    c = .commitSwap ∨ ∃ part, c = .localFrameStart part := by
  cases c <;> simp [Instr.moves] at h ⊢

theorem remote_mem_moves {c : Instr} (h : Guarded.remote ∈ Instr.moves c) :
    c = .join ∨ c = .leave ∨ ∃ x f o, c = .alignedFrameArrival x f o := by
  cases c <;> simp [Instr.moves] at h ⊢

theorem fall_mem_moves {c : Instr} (h : Guarded.fall ∈ Instr.moves c) : c = .readClear := by
  cases c <;> simp [Instr.moves] at h ⊢

/-- Settles O52: each command keeps what it may not move, and a write and a swap are further limited by the mode and by the turn
of the Table Store. -/
theorem onlyTheseEventsChange : Obligations.OnlyTheseEventsChange := by
  intro s t c ran stays
  obtain ⟨u, ran', kept⟩ := exec_standsBut c s stays
  cases ran'.symm.trans ran
  have moved (g : Guarded) : g.Stands s t ∨ g ∈ Instr.moves c := (Decidable.em (g ∈ Instr.moves c)).symm.imp_left (kept g)
  refine ⟨(moved .mode).imp_right mode_mem_moves, kept .strap (strap_not_mem_moves c), (moved .map).imp_right map_mem_moves,
    fun joined => ?_, ?_, (moved .remote).imp_right remote_mem_moves,
    (moved .fall).imp (·.1) fall_mem_moves, (moved .fall).imp (·.2) fall_mem_moves⟩
  · rcases moved .map with ⟨nodeId, ringMap, -⟩ | writes
    · exact ⟨nodeId, ringMap⟩
    · have held : MapHeld s t := by
        have written := map_mem_moves writes
        simp only [List.mem_cons, List.not_mem_nil, or_false] at written
        rcases written with rfl | rfl | rfl <;> cases ran
        all_goals exact writeTurn_mapHeld _ _ joined
      exact ⟨congrArg Identity.nodeId held.1, held.2⟩
  · by_cases idle : s.tables.commit = none ∨ s.instant.swapTurn = false
    · refine .inl ((moved .banks).elim id fun swaps => ?_)
      rcases banks_mem_moves swaps with rfl | ⟨part, rfl⟩
      · cases ran
        rw [takeSwap_idle idle]
        exact ⟨rfl, rfl, rfl⟩
      · cases ran
        split
        · exact frameStart_idle idle part
        · exact resetFrameStart_standsBut s part .banks List.not_mem_nil
    · rw [not_or, Bool.not_eq_false] at idle
      exact (moved .banks).imp id fun swaps => ⟨idle.1, idle.2, banks_mem_moves swaps⟩

end Sys2Proof.Machine

/-! PROOFS. The status of a WRITE, SET or CLEAR by its table (O39). -/

namespace Sys2Proof.Machine

/-! ### The fields of a word (11) -/

theorem fieldAt_lt (w : Word) (lo width : Nat) : fieldAt w lo width < 2 ^ width := BitVec.isLt _

/-- A flag of a word as the value of its one-bit field. -/
theorem fieldAt_one (w : Word) (i : Nat) : fieldAt w i 1 = (w.getLsbD i).toNat := by
  unfold fieldAt
  rw [BitVec.extractLsb'_toNat, BitVec.getLsbD, Nat.toNat_testBit, Nat.shiftRight_eq_div_pow, Nat.pow_one]

theorem getLsbD_eq_true_iff (w : Word) (i : Nat) : w.getLsbD i = true ↔ fieldAt w i 1 = 1 := by
  rw [fieldAt_one]
  cases w.getLsbD i <;> decide

/-- A Slot Map or Extra Map word is out of range in a stored field (R133, R179). -/
theorem slotOfWord_isNone_iff (w : Word) : (slotOfWord w).isNone = true ↔
    fieldAt w 30 2 = 3 ∨ (fieldAt w 30 2 = 2 ∧ 63 < fieldAt w 8 8) ∨ (fieldAt w 29 1 = 1 ∧ 63 < fieldAt w 0 8) := by
  rw [← getLsbD_eq_true_iff]
  have bound := fieldAt_lt w 30 2
  unfold slotOfWord
  extract_lets t d source drop
  have noSource : source = none ↔ fieldAt w 30 2 = 3 ∨ (fieldAt w 30 2 = 2 ∧ 63 < t) := by
    dsimp only [source]
    split
    next kind => simp [kind]
    next kind => simp [kind]
    next kind => simp [kind]; omega
    next unvoid unthrough unadd =>
      have : fieldAt w 30 2 ≠ 0 ∧ fieldAt w 30 2 ≠ 1 ∧ fieldAt w 30 2 ≠ 2 := ⟨unvoid, unthrough, unadd⟩
      exact iff_of_true rfl (.inl (by omega))
  have noDrop : drop = none ↔ w.getLsbD 29 = true ∧ 63 < d := by
    dsimp only [drop]
    split
    next used =>
      split
      next within => exact iff_of_false nofun fun h => by omega
      next beyond => exact iff_of_true rfl ⟨used, by omega⟩
    next unused => exact iff_of_false nofun fun h => unused h.1
  rw [← or_assoc, ← noSource, ← noDrop]
  cases source <;> cases drop <;> simp

/-- A Circuit Table word is out of range in a stored field (R133). -/
theorem circuitOfWord_isNone_iff (w : Word) : (circuitOfWord w).isNone = true ↔
    fieldAt w 31 1 = 1 ∧ (62 < fieldAt w 8 8 ∨ 62 < fieldAt w 0 8 ∨ fieldAt w 8 8 = fieldAt w 0 8) := by
  rw [← getLsbD_eq_true_iff]
  unfold circuitOfWord
  extract_lets o t
  split
  next used =>
    split
    next within =>
      split
      next same => exact iff_of_true rfl ⟨used, .inr (.inr same)⟩
      next other => exact iff_of_false nofun fun ⟨_, h⟩ => by omega
    next beyond => exact iff_of_true rfl ⟨used, by omega⟩
  next unused => exact iff_of_false nofun fun h => unused h.1

theorem ofRoute_isNone_iff (r : Nat) : (Port.ofRoute r).isNone = true ↔ r ∉ [1, 2, 3] := by
  unfold Port.ofRoute
  split <;> simp_all

/-! ### The words that a request names (R161) -/

theorem anyNamed_iff (table index count : Nat) (test : Nat → Bool) :
    anyNamed table index count test = true ↔ ∃ i < tableSize table, index ≤ i ∧ i < index + count ∧ test i = true := by
  simp [anyNamed, and_assoc]

theorem beyond_iff (table index count : Nat) : beyond table index count = true ↔ tableSize table < index + count := by
  simp [beyond]

/-- A check that does not look at the index. -/
theorem any_zipIdx_fst (words : List Word) (index : Nat) (test : Word → Bool) :
    ((words.zipIdx index).any fun wi => test wi.1) = words.any test := by
  conv_rhs => rw [← List.zipIdx_map_fst index words, List.any_map]
  rfl

theorem any_zipIdx_iff (words : List Word) (index : Nat) (test : Nat → Word → Bool) :
    ((words.zipIdx index).any fun wi => test wi.2 wi.1) = true ↔
      ∃ j < words.length, test (index + j) (words.getD j 0#32) = true := by
  rw [List.any_eq_true, List.exists_mem_zipIdx]
  refine exists_congr fun j => ⟨fun ⟨within, holds⟩ => ⟨within, ?_⟩, fun ⟨within, holds⟩ => ⟨within, ?_⟩⟩
  · simpa [List.getD_eq_getElem?_getD, within] using holds
  · simpa [List.getD_eq_getElem?_getD, within] using holds

/-! ### The order of the checks (R48, R51, R133, R161, R169) -/

/-- While a commit is pending a standby bank answers RETRY (R133, R136). -/
theorem writeStatus_of_pending {s : State} {table : Nat} (standby : isStandby table = true) (pending : s.tables.commit ≠ none)
    (index : Nat) (words : List Word) : writeStatus s table index words = .retry := by
  have locked : s.tables.commit.isSome = true := Option.isSome_iff_ne_none.2 pending
  simp [writeStatus, standby, locked]

theorem writeStatus_of_refused {s : State} {table index : Nat} {words : List Word} (standby : isStandby table = false)
    (refused : refusesWrites s table = true ∨ anyNamed table index words.length (writeProtected s table) = true) :
    writeStatus s table index words = .refused := by
  simp only [writeStatus, standby, Bool.false_and, Bool.false_eq_true, if_false, Bool.or_eq_true, refused, if_true]

/-- A request that no bank and no protected word turns away is answered by the ranges of its indices and of its words. -/
theorem writeStatus_of_writable {s : State} {table index : Nat} {words : List Word}
    (unlocked : isStandby table = true → s.tables.commit = none) (writable : refusesWrites s table = false)
    (unprotected : anyNamed table index words.length (writeProtected s table) = false) :
    writeStatus s table index words =
      if tableSize table < index + words.length then .range
      else if (words.zipIdx index).any fun wi => outOfRange table wi.2 wi.1 then .range
      else .done := by
  have free : (isStandby table && s.tables.commit.isSome) = false := by
    cases standby : isStandby table
    · rfl
    · simp [unlocked standby]
  simp only [writeStatus, free, writable, unprotected, beyond_iff, Bool.false_eq_true, if_false, Bool.or_false]

theorem anyNamed_of_unprotected {s : State} {table : Nat} (unprotected : ∀ i, writeProtected s table i = false)
    (index count : Nat) : anyNamed table index count (writeProtected s table) = false := by
  simp [anyNamed, unprotected]

/-! ### The status by the table -/

/-- The standby banks: `bad` is what a word of the table may not be (R133, R134). -/
theorem writeStatus_standby {s : State} {table : Nat} {bad : Word → Bool} (standby : isStandby table = true)
    (writable : refusesWrites s table = false) (unprotected : ∀ i, writeProtected s table i = false)
    (size : tableSize table = 64) (range : ∀ i w, outOfRange table i w = bad w) (index : Nat) (words : List Word) :
    writeStatus s table index words =
      if s.tables.commit ≠ none then .retry
      else if 64 < index + words.length then .range
      else if words.any bad then .range
      else .done := by
  split
  next pending => exact writeStatus_of_pending standby pending index words
  next free =>
    rw [writeStatus_of_writable (fun _ => not_not.1 free) writable (anyNamed_of_unprotected unprotected _ _), size]
    simp only [range, any_zipIdx_fst words index bad]

theorem any_decide_congr {words : List Word} {bad : Word → Bool} {p : Word → Prop} [DecidablePred p]
    (h : ∀ w, bad w = true ↔ p w) : words.any bad = words.any fun w => decide (p w) := by
  congr 1
  funext w
  exact Bool.eq_iff_iff.2 ((h w).trans decide_eq_true_iff.symm)

/-- The Slot Map and the Extra Map (R133, R179). -/
theorem writeStatus_slots {s : State} {table : Nat} (h : table = 3 ∨ table = 5) (index : Nat) (words : List Word) :
    writeStatus s table index words =
      if s.tables.commit ≠ none then .retry
      else if 64 < index + words.length then .range
      else if words.any fun w => fieldAt w 30 2 = 3 ∨ (fieldAt w 30 2 = 2 ∧ 63 < fieldAt w 8 8) ∨
        (fieldAt w 29 1 = 1 ∧ 63 < fieldAt w 0 8) then .range
      else .done := by
  rw [← any_decide_congr slotOfWord_isNone_iff]
  rcases h with rfl | rfl
  · exact writeStatus_standby rfl rfl (fun _ => rfl) rfl (fun _ _ => rfl) index words
  · exact writeStatus_standby rfl rfl (fun _ => rfl) rfl (fun _ _ => rfl) index words

/-- The Circuit Table (R133). -/
theorem writeStatus_circuits (s : State) (index : Nat) (words : List Word) :
    writeStatus s 7 index words =
      if s.tables.commit ≠ none then .retry
      else if 64 < index + words.length then .range
      else if words.any fun w => fieldAt w 31 1 = 1 ∧
        (62 < fieldAt w 8 8 ∨ 62 < fieldAt w 0 8 ∨ fieldAt w 8 8 = fieldAt w 0 8) then .range
      else .done := by
  rw [← any_decide_congr circuitOfWord_isNone_iff]
  exact writeStatus_standby rfl rfl (fun _ => rfl) rfl (fun _ _ => rfl) index words

/-- A write of the Identity table reaches a word that it protects: any word but word 1, and that one while JOINED (R48, R49). -/
theorem anyNamed_identity_iff (s : State) {index count : Nat} (nonempty : 0 < count) :
    anyNamed 0 index count (writeProtected s 0) = true ↔ index < 4 ∧ (index = 1 ∧ count = 1 → s.joined = true) := by
  rw [anyNamed_iff]
  simp only [tableSize, writeProtected, Bool.or_eq_true, bne_iff_ne]
  constructor
  · rintro ⟨i, size, first, last, other | joined⟩
    · exact ⟨by omega, fun alone => by omega⟩
    · exact ⟨by omega, fun _ => joined⟩
  · rintro ⟨size, alone⟩
    by_cases only : index = 1 ∧ count = 1
    · exact ⟨1, by omega, by omega, by omega, .inr (alone only)⟩
    · by_cases one : index = 1
      · exact ⟨2, by omega, by omega, by omega, .inl (by omega)⟩
      · exact ⟨index, size, le_rfl, by omega, .inl one⟩

/-- The Identity table (R48, R49; log 22). -/
theorem writeStatus_identity (s : State) (index : Nat) {words : List Word} (nonempty : 0 < words.length) :
    writeStatus s 0 index words =
      if index = 1 ∧ words.length = 1 then
        if s.joined then .refused else if words.any fun w => 62 < w.toNat then .range else .done
      else if index < 4 then .refused
      else .range := by
  have reached := anyNamed_identity_iff s (index := index) nonempty
  by_cases touched : anyNamed 0 index words.length (writeProtected s 0) = true
  · obtain ⟨size, alone⟩ := reached.1 touched
    rw [writeStatus_of_refused rfl (.inr touched)]
    by_cases only : index = 1 ∧ words.length = 1
    · rw [if_pos only, if_pos (alone only)]
    · rw [if_neg only, if_pos size]
  · rw [writeStatus_of_writable (absurd · (by decide)) rfl (Bool.not_eq_true _ ▸ touched)]
    rw [reached] at touched
    by_cases only : index = 1 ∧ words.length = 1
    · have joined : ¬ s.joined = true := fun joined => touched ⟨by omega, fun _ => joined⟩
      have within : ¬ tableSize 0 < index + words.length := by simp [tableSize]; omega
      rw [if_pos only, if_neg joined, if_neg within]
      simp only [outOfRange, any_zipIdx_fst words index fun w => decide (62 < w.toNat)]
    · have size : ¬ index < 4 := fun size => touched ⟨size, fun h => absurd h only⟩
      have beyond : tableSize 0 < index + words.length := by simp [tableSize]; omega
      rw [if_neg only, if_neg size, if_pos beyond]

/-- The Profile: only the notice route has a structural range (R162, R179). -/
theorem writeStatus_profile (s : State) (index : Nat) (words : List Word) :
    writeStatus s 1 index words =
      if 7 < index + words.length then .range
      else if index ≤ 6 ∧ 6 < index + words.length ∧ fieldAt (words.getD (6 - index) 0#32) 0 8 ∉ [1, 2, 3] then .range
      else .done := by
  rw [writeStatus_of_writable (absurd · (by decide)) rfl (anyNamed_of_unprotected (fun _ => rfl) _ _)]
  refine if_congr Iff.rfl rfl (if_congr ((any_zipIdx_iff words index (outOfRange 1)).trans ?_) rfl rfl)
  simp only [outOfRange, Bool.and_eq_true, beq_iff_eq, ofRoute_isNone_iff]
  constructor
  · rintro ⟨j, within, place, bad⟩
    obtain rfl : j = 6 - index := by omega
    exact ⟨by omega, by omega, bad⟩
  · rintro ⟨first, last, bad⟩
    exact ⟨6 - index, by omega, by omega, bad⟩

/-- The Ring Map (R51). -/
theorem writeStatus_ringMap (s : State) (index : Nat) (words : List Word) :
    writeStatus s 2 index words =
      if s.joined then .refused
      else if 33 < index + words.length then .range
      else if (List.range words.length).any fun j =>
        if index + j = 0 then 32 < fieldAt (words.getD j 0#32) 16 16 else 63 < (words.getD j 0#32).toNat then .range
      else .done := by
  split
  next joined => exact writeStatus_of_refused rfl (.inl joined)
  next standalone =>
    rw [writeStatus_of_writable (absurd · (by decide)) (Bool.not_eq_true _ ▸ standalone)
      (anyNamed_of_unprotected (fun _ => rfl) _ _)]
    refine if_congr Iff.rfl rfl (if_congr ((any_zipIdx_iff words index (outOfRange 2)).trans ?_) rfl rfl)
    rw [List.any_eq_true]
    simp only [List.mem_range, outOfRange]

/-- A write of the Events table reaches a word that it protects: word 0, 1 or 6 (R169). -/
theorem anyNamed_events_iff (s : State) {index count : Nat} (nonempty : 0 < count) :
    anyNamed 12 index count (writeProtected s 12) = true ↔ index ≤ 1 ∨ (index ≤ 6 ∧ 6 < index + count) := by
  rw [anyNamed_iff]
  simp only [tableSize, writeProtected, Bool.or_eq_true, beq_iff_eq]
  constructor
  · rintro ⟨i, size, first, last, place⟩
    omega
  · rintro (early | ⟨first, last⟩)
    · exact ⟨index, by omega, le_rfl, by omega, by omega⟩
    · exact ⟨6, by omega, first, last, .inr rfl⟩

/-- The Events table (R169). -/
theorem writeStatus_events (s : State) (index : Nat) {words : List Word} (nonempty : 0 < words.length) :
    writeStatus s 12 index words =
      if index ≤ 1 ∨ (index ≤ 6 ∧ 6 < index + words.length) then .refused
      else if 7 < index + words.length then .range else .done := by
  split
  next touched => exact writeStatus_of_refused rfl (.inr ((anyNamed_events_iff s nonempty).2 touched))
  next untouched =>
    rw [← anyNamed_events_iff s nonempty, Bool.not_eq_true] at untouched
    rw [writeStatus_of_writable (absurd · (by decide)) rfl untouched]
    simp [tableSize, outOfRange]

/-- The tables that only show the state (R85, R133, R160). -/
theorem writeStatus_readOnly (s : State) {table : Nat} (h : table ∈ [4, 6, 8, 9, 10, 11]) (index : Nat) (words : List Word) :
    writeStatus s table index words = .refused := by
  fin_cases h <;> exact writeStatus_of_refused rfl (.inl rfl)

/-- Settles O39, table by table. -/
theorem writeStatusByTable : Obligations.WriteStatusByTable := by
  intro s table index words named
  have nonempty : 0 < words.length := List.length_pos_iff.2 named
  refine ⟨fun h => writeStatus_slots h index words, ?_, ?_, ?_, ?_, ?_, fun h => writeStatus_readOnly s h index words⟩
  · rintro rfl
    exact writeStatus_circuits s index words
  · rintro rfl
    exact writeStatus_identity s index nonempty
  · rintro rfl
    exact writeStatus_profile s index words
  · rintro rfl
    exact writeStatus_ringMap s index words
  · rintro rfl
    exact writeStatus_events s index nonempty

end Sys2Proof.Machine

/-! PROOFS. What the words of an accepted write store, word by word (O40). -/

namespace Sys2Proof.Machine

/-! ### What a run of words stores at one place (R161) -/

theorem storeWords_cons (s : State) (table index : Nat) (w : Word) (words : List Word) :
    storeWords s table index (w :: words) = storeWords (storeWord s table index w) table (index + 1) words := rfl

/-- What the word of place i stores, and no other word of the request touches, is stored exactly when the request names
place i. -/
theorem storeWords_field {β : Type} {s : State} {table index : Nat} {words : List Word}
    (passed : writeStatus s table index words = .done) {field : State → β} {i : Nat} {stored : Word → β}
    (place : ∀ u j w, Storable u table j w → field (storeWord u table j w) = if j = i then stored w else field u) :
    field (storeWords s table index words) =
      if index ≤ i ∧ i < index + words.length then stored (words.getD (i - index) 0#32) else field s := by
  have storable := fun w i => storable_of_done (w := w) (i := i) passed
  clear passed
  induction words generalizing s index with
  | nil => exact (if_neg (by simp only [List.length_nil]; omega)).symm
  | cons w words ih =>
    have first := storable w index List.mem_cons_self
    have later := ih (s := storeWord s table index w) (index := index + 1) fun v j mem =>
      (storable v j (List.mem_cons_of_mem _ mem)).congr (storeWord_stored s table index w)
    rw [storeWords_cons, later, place s index w first, List.length_cons]
    rcases Nat.lt_trichotomy i index with before | rfl | after
    · rw [if_neg (by omega), if_neg (by omega), if_neg (by omega)]
    · rw [if_neg (by omega), if_pos rfl, if_pos (by omega), Nat.sub_self, List.getD_cons_zero]
    · rw [if_neg (show ¬ index = i by omega), show i - index = i - (index + 1) + 1 by omega, List.getD_cons_succ]
      exact if_congr (by omega) rfl rfl

/-! ### What one word stores, field by field -/

theorem getElem_replaced {α : Type} {n : Nat} (v : Vector α n) (j : Nat) (a : α) (i : Fin n) :
    (replaced v j a)[i] = if j = i then a else v[i] := by
  unfold replaced
  split
  next within => exact Vector.getElem_set within i.isLt
  next beyond => rw [if_neg (by omega)]

/-- A Profile word stores its own fields, each numeric one at the nearer limit of its range (R162, R179). -/
theorem storeProfile_eq (p : Profile) (i : Nat) (w : Word) : storeProfile p i w =
    { weight := if i = 0 then pairOf w else p.weight
      tOn := if i = 1 then pairOf w else p.tOn
      tOff := if i = 2 then pairOf w else p.tOff
      tFail := if i = 3 then pairOf w else p.tFail
      holdOffTime := if i = 4 then clamped 0 1000 (fieldAt w 16 16) else p.holdOffTime
      settleTime := if i = 4 then clamped 0 1000 (fieldAt w 0 16) else p.settleTime
      wtrTime := if i = 5 then clamped 1 3600 (fieldAt w 16 16) else p.wtrTime
      confirmTimeout := if i = 5 then clamped 2 500 (fieldAt w 0 16) else p.confirmTimeout
      responseHop := if i = 6 then clamped 1 31 (fieldAt w 24 8) else p.responseHop
      pollSelector := if i = 6 then ⟨min 3 (fieldAt w 16 8), by omega⟩ else p.pollSelector
      noticeDestination := if i = 6 then BitVec.ofNat 6 (min 63 (fieldAt w 8 8)) else p.noticeDestination
      noticeRoute := if i = 6 then (Port.ofRoute (fieldAt w 0 8)).getD p.noticeRoute else p.noticeRoute } := by
  unfold storeProfile
  split
  · rfl
  · rfl
  · rfl
  · rfl
  · rfl
  · rfl
  · rfl
  next h0 h1 h2 h3 h4 h5 h6 =>
    simp only [eq_false h0, eq_false h1, eq_false h2, eq_false h3, eq_false h4, eq_false h5, eq_false h6, if_false]

theorem storeRingMap_n (m : RingMap) (i : Nat) (w : Word) :
    (storeRingMap m i w).n = if i = 0 then fieldAt w 16 16 else m.n := by
  cases i <;> rfl

theorem storeRingMap_ringId (m : RingMap) (i : Nat) (w : Word) :
    (storeRingMap m i w).ringId = if i = 0 then w.extractLsb' 0 16 else m.ringId := by
  cases i <;> rfl

theorem storeRingMap_ids (m : RingMap) (i : Nat) (w : Word) (p : Fin 32) :
    (storeRingMap m i w).ids[p] = if i = p.val + 1 then idOfWord w else m.ids[p] := by
  cases i with
  | zero => rfl
  | succ q => exact (getElem_replaced m.ids q _ p).trans (if_congr (by omega) rfl rfl)

/-- The identifier of a word within its range: 63 is the empty position (R51, R178). -/
theorem idOfWord_val {w : Word} (range : w.toNat ≤ 63) :
    (idOfWord w).map (·.val) = if w.toNat = 63 then none else some w.toNat := by
  unfold idOfWord
  split
  next taken => rw [if_neg (by omega)]; rfl
  next empty => rw [if_pos (by omega)]; rfl

/-- A word of the Events table stores its own enables, without the positions of no source and, in word 3, those of the pulse
events (R169). -/
theorem storeEvents_eq (e : EventUnit) (i : Nat) (w : Word) : storeEvents e i w = { e with
    rise := if i = 2 then w &&& Config.sourceMask else e.rise
    fall := if i = 3 then w &&& Config.liveMask else e.fall
    notify := if i = 4 then w &&& Config.sourceMask else e.notify
    alert := if i = 5 then w &&& Config.sourceMask else e.alert } := by
  unfold storeEvents
  split
  · rfl
  · rfl
  · rfl
  · rfl
  next h2 h3 h4 h5 => simp only [eq_false h2, eq_false h3, eq_false h4, eq_false h5, if_false]

/-! ### The words by the table -/

/-- A standby bank whose words are read by `ofWord` (R133). -/
theorem storeWords_bank {α : Type} {ofWord : Word → Option α} {bank : State → Vector α 64} {s : State} {table index : Nat}
    {words : List Word} (passed : writeStatus s table index words = .done)
    (range : ∀ i w, outOfRange table i w = (ofWord w).isNone)
    (stores : ∀ u j w r, ofWord w = some r → bank (storeWord u table j w) = replaced (bank u) j r) (i : Fin 64) :
    if index ≤ i.val ∧ i.val < index + words.length then
      ofWord (words.getD (i.val - index) 0#32) = some (bank (storeWords s table index words))[i]
    else (bank (storeWords s table index words))[i] = (bank s)[i] := by
  have place := storeWords_field passed (field := fun u => some (bank u)[i]) (i := i.val) (stored := ofWord)
    fun u j w storable => by
      have valid := storable.valid
      rw [range, Option.isNone_eq_false_iff, Option.isSome_iff_exists] at valid
      obtain ⟨r, taken⟩ := valid
      rw [stores u j w r taken, getElem_replaced, taken, apply_ite some]
  split
  next named => rw [place, if_pos named]
  next other => exact Option.some.inj (place.trans (if_neg other))

theorem storeWord_slot {w : Word} {r : SlotRecord} (taken : slotOfWord w = some r) (s : State) (i : Nat) :
    storeWord s 3 i w =
      s.setTables { s.tables with slot := { s.tables.slot with standby := replaced s.tables.slot.standby i r } } := by
  simp only [storeWord, taken]

theorem storeWord_extra {w : Word} {r : SlotRecord} (taken : slotOfWord w = some r) (s : State) (i : Nat) :
    storeWord s 5 i w =
      s.setTables { s.tables with extra := { s.tables.extra with standby := replaced s.tables.extra.standby i r } } := by
  simp only [storeWord, taken]

theorem storeWord_circuit {w : Word} {r : Option Circuit} (taken : circuitOfWord w = some r) (s : State) (i : Nat) :
    storeWord s 7 i w =
      s.setTables { s.tables with circuit := { s.tables.circuit with standby := replaced s.tables.circuit.standby i r } } := by
  simp only [storeWord, taken]

/-- A property of pairs of states that each word of one table's writes has, and that chains, holds of the whole write. -/
theorem storeWords_related {R : State → State → Prop} (refl : ∀ s, R s s) (trans : ∀ s t u, R s t → R t u → R s u)
    {table : Nat} (store : ∀ s i w, R s (storeWord s table i w)) (s : State) (index : Nat) (words : List Word) :
    R s (storeWords s table index words) := by
  induction words generalizing s index with
  | nil => exact refl s
  | cons w words ih => exact trans _ _ _ (store s index w) (ih _ _)

/-- A write of table 3 changes nothing but the standby bank of the Slot Map. -/
theorem storeWords_slot_frame (s : State) (index : Nat) (words : List Word) :
    storeWords s 3 index words = { s with tables := { s.tables with
      slot := ⟨(storeWords s 3 index words).tables.slot.standby, s.tables.slot.active⟩ } } :=
  storeWords_related (R := fun s t => t = { s with tables := { s.tables with
      slot := ⟨t.tables.slot.standby, s.tables.slot.active⟩ } })
    (fun _ => rfl) (fun s t u h k => by rw [k, h]) (fun s i w => by
      cases taken : slotOfWord w with
      | none => simp only [storeWord, taken]
      | some r => rw [storeWord_slot taken]; rfl) s index words

/-- A write of table 5 changes nothing but the standby bank of the Extra Map. -/
theorem storeWords_extra_frame (s : State) (index : Nat) (words : List Word) :
    storeWords s 5 index words = { s with tables := { s.tables with
      extra := ⟨(storeWords s 5 index words).tables.extra.standby, s.tables.extra.active⟩ } } :=
  storeWords_related (R := fun s t => t = { s with tables := { s.tables with
      extra := ⟨t.tables.extra.standby, s.tables.extra.active⟩ } })
    (fun _ => rfl) (fun s t u h k => by rw [k, h]) (fun s i w => by
      cases taken : slotOfWord w with
      | none => simp only [storeWord, taken]
      | some r => rw [storeWord_extra taken]; rfl) s index words

/-- A write of table 7 changes nothing but the standby bank of the Circuit Table. -/
theorem storeWords_circuit_frame (s : State) (index : Nat) (words : List Word) :
    storeWords s 7 index words = { s with tables := { s.tables with
      circuit := ⟨(storeWords s 7 index words).tables.circuit.standby, s.tables.circuit.active⟩ } } :=
  storeWords_related (R := fun s t => t = { s with tables := { s.tables with
      circuit := ⟨t.tables.circuit.standby, s.tables.circuit.active⟩ } })
    (fun _ => rfl) (fun s t u h k => by rw [k, h]) (fun s i w => by
      cases taken : circuitOfWord w with
      | none => simp only [storeWord, taken]
      | some r => rw [storeWord_circuit taken]; rfl) s index words

theorem storeWords_profile_frame (s : State) (index : Nat) (words : List Word) :
    storeWords s 1 index words = { s with profile := (storeWords s 1 index words).profile } :=
  storeWords_related (R := fun s t => t = { s with profile := t.profile })
    (fun _ => rfl) (fun s t u h k => by rw [k, h]) (fun _ _ _ => rfl) s index words

theorem storeWords_ringMap_frame (s : State) (index : Nat) (words : List Word) :
    storeWords s 2 index words = { s with ringMap := (storeWords s 2 index words).ringMap } :=
  storeWords_related (R := fun s t => t = { s with ringMap := t.ringMap })
    (fun _ => rfl) (fun s t u h k => by rw [k, h]) (fun _ _ _ => rfl) s index words

/-- A write of table 12 changes nothing but the four enables. -/
theorem storeWords_events_frame (s : State) (index : Nat) (words : List Word) :
    storeWords s 12 index words = { s with events := { s.events with
      rise := (storeWords s 12 index words).events.rise, fall := (storeWords s 12 index words).events.fall
      notify := (storeWords s 12 index words).events.notify, alert := (storeWords s 12 index words).events.alert } } :=
  storeWords_related (table := 12) (R := fun s t => t = { s with events := { s.events with
      rise := t.events.rise, fall := t.events.fall, notify := t.events.notify, alert := t.events.alert } })
    (fun _ => rfl) (fun s t u h k => by rw [k, h])
    (fun s i w => congrArg s.setEvents (storeEvents_frame s.events i w)) s index words

/-- The Identity table stores one word, the node ID in use (R48). -/
theorem storeWords_identity {s : State} {index : Nat} {words : List Word} (passed : writeStatus s 0 index words = .done)
    (nonempty : words ≠ []) :
    storeWords s 0 index words =
      { s with identity := { s.identity with nodeId := (words.getD (1 - index) 0#32).setWidth 6 } } := by
  rw [writeStatus_identity s index (List.length_pos_iff.2 nonempty)] at passed
  split at passed
  next only =>
    obtain ⟨rfl, single⟩ := only
    obtain ⟨w, rfl⟩ := List.length_eq_one_iff.1 single
    rfl
  next => split at passed <;> contradiction

/-- A Profile field that the word of place i holds. -/
theorem storeWords_profile_field {β : Type} {s : State} {index : Nat} {words : List Word}
    (passed : writeStatus s 1 index words = .done) {field : Profile → β} {i : Nat} {stored : Word → β}
    (place : ∀ p j w, outOfRange 1 j w = false → field (storeProfile p j w) = if j = i then stored w else field p) :
    field (storeWords s 1 index words).profile =
      if index ≤ i ∧ i < index + words.length then stored (words.getD (i - index) 0#32) else field s.profile :=
  storeWords_field passed (field := fun u => field u.profile) fun u j w storable => place u.profile j w storable.valid

/-- A pair of a Profile word, East in its upper half. -/
theorem storeWords_profile_pair {s : State} {index : Nat} {words : List Word}
    (passed : writeStatus s 1 index words = .done) {pair : Profile → Sides Half} {i : Nat}
    (place : ∀ p j w, pair (storeProfile p j w) = if j = i then pairOf w else pair p) (x : Side) :
    (pair (storeWords s 1 index words).profile).get x =
      if index ≤ i ∧ i < index + words.length then (pairOf (words.getD (i - index) 0#32)).get x
      else (pair s.profile).get x :=
  storeWords_profile_field passed (field := fun p => (pair p).get x) (stored := fun w => (pairOf w).get x)
    fun p j w _ => by rw [place, apply_ite (Sides.get · x)]

theorem storeProfile_noticeDestination (p : Profile) (i : Nat) (w : Word) :
    (storeProfile p i w).noticeDestination.toNat =
      if i = 6 then min 63 (fieldAt w 8 8) else p.noticeDestination.toNat := by
  rw [storeProfile_eq, apply_ite BitVec.toNat, BitVec.toNat_ofNat, Nat.mod_eq_of_lt (by omega)]

/-- The notice route of a word that passed its check (R162, R179). -/
theorem storeProfile_noticeRoute {p : Profile} {i : Nat} {w : Word} (valid : outOfRange 1 i w = false) :
    some (storeProfile p i w).noticeRoute = if i = 6 then Port.ofRoute (fieldAt w 0 8) else some p.noticeRoute := by
  rw [storeProfile_eq]
  dsimp only
  split
  next sixth =>
    subst sixth
    have route : (Port.ofRoute (fieldAt w 0 8)).isSome = true := by simpa [outOfRange] using valid
    obtain ⟨q, found⟩ := Option.isSome_iff_exists.1 route
    rw [found]
    rfl
  next => rfl

/-- The identifier of a word that passed its check (R51, R178). -/
theorem storeRingMap_id {m : RingMap} {i : Nat} {w : Word} (valid : outOfRange 2 i w = false) (p : Fin 32) :
    (storeRingMap m i w).ids[p].map (·.val) =
      if i = p.val + 1 then if w.toNat = 63 then none else some w.toNat else m.ids[p].map (·.val) := by
  rw [storeRingMap_ids, apply_ite (Option.map _)]
  refine ite_congr rfl (fun place => idOfWord_val ?_) fun _ => rfl
  simpa [outOfRange, place] using valid

theorem storeWords_ringMap_field {β : Type} {s : State} {index : Nat} {words : List Word}
    (passed : writeStatus s 2 index words = .done) {field : RingMap → β} {i : Nat} {stored : Word → β}
    (place : ∀ m j w, outOfRange 2 j w = false → field (storeRingMap m j w) = if j = i then stored w else field m) :
    field (storeWords s 2 index words).ringMap =
      if index ≤ i ∧ i < index + words.length then stored (words.getD (i - index) 0#32) else field s.ringMap :=
  storeWords_field passed (field := fun u => field u.ringMap) fun u j w storable => place u.ringMap j w storable.valid

theorem storeWords_events_field {s : State} {index : Nat} {words : List Word}
    (passed : writeStatus s 12 index words = .done) {enable : EventUnit → Word} {i : Nat} {mask : Word}
    (place : ∀ e j w, enable (storeEvents e j w) = if j = i then w &&& mask else enable e) :
    enable (storeWords s 12 index words).events =
      if index ≤ i ∧ i < index + words.length then words.getD (i - index) 0#32 &&& mask else enable s.events :=
  storeWords_field passed (field := fun u => enable u.events) (stored := (· &&& mask)) fun u j w _ => place u.events j w

/-- Settles O40, table by table. -/
theorem storedWords : Obligations.StoredWords := by
  intro s table index words passed
  refine ⟨?slot, ?extra, ?circuit, ?identity, ?profile, ?ringMap, ?events⟩
  case slot =>
    rintro rfl
    exact ⟨storeWords_bank passed (bank := fun u => u.tables.slot.standby) (fun _ _ => rfl)
      fun u j w r taken => by rw [storeWord_slot taken]; rfl, storeWords_slot_frame s index words⟩
  case extra =>
    rintro rfl
    exact ⟨storeWords_bank passed (bank := fun u => u.tables.extra.standby) (fun _ _ => rfl)
      fun u j w r taken => by rw [storeWord_extra taken]; rfl, storeWords_extra_frame s index words⟩
  case circuit =>
    rintro rfl
    exact ⟨storeWords_bank passed (bank := fun u => u.tables.circuit.standby) (fun _ _ => rfl)
      fun u j w r taken => by rw [storeWord_circuit taken]; rfl, storeWords_circuit_frame s index words⟩
  case identity =>
    rintro rfl
    exact storeWords_identity passed
  case profile =>
    rintro rfl
    have pairs := fun x => And.intro
      (storeWords_profile_pair passed (pair := Profile.weight) (i := 0) (fun p j w => by rw [storeProfile_eq]) x)
      (And.intro
        (storeWords_profile_pair passed (pair := Profile.tOn) (i := 1) (fun p j w => by rw [storeProfile_eq]) x)
        (And.intro
          (storeWords_profile_pair passed (pair := Profile.tOff) (i := 2) (fun p j w => by rw [storeProfile_eq]) x)
          (storeWords_profile_pair passed (pair := Profile.tFail) (i := 3) (fun p j w => by rw [storeProfile_eq]) x)))
    refine ⟨fun x => by cases x <;> exact pairs _, ?_, ?_, ?_, ?_, ?_, ?_, ?_, ?_, storeWords_profile_frame s index words⟩
    · exact storeWords_profile_field passed (field := Profile.holdOffTime) (stored := fun v => min 1000 (fieldAt v 16 16))
        fun p j w _ => by rw [storeProfile_eq, clamped, Nat.zero_max]
    · exact storeWords_profile_field passed (field := Profile.settleTime) (stored := fun v => min 1000 (fieldAt v 0 16))
        fun p j w _ => by rw [storeProfile_eq, clamped, clamped, Nat.zero_max, Nat.zero_max]
    · exact storeWords_profile_field passed (field := Profile.wtrTime)
        (stored := fun v => max 1 (min 3600 (fieldAt v 16 16))) fun p j w _ => by rw [storeProfile_eq]; rfl
    · exact storeWords_profile_field passed (field := Profile.confirmTimeout)
        (stored := fun v => max 2 (min 500 (fieldAt v 0 16))) fun p j w _ => by rw [storeProfile_eq]; rfl
    · exact storeWords_profile_field passed (field := Profile.responseHop)
        (stored := fun v => max 1 (min 31 (fieldAt v 24 8))) fun p j w _ => by rw [storeProfile_eq]; rfl
    · exact storeWords_profile_field passed (field := fun p => p.pollSelector.val)
        (stored := fun v => min 3 (fieldAt v 16 8)) fun p j w _ => by rw [storeProfile_eq, apply_ite Fin.val]
    · exact storeWords_profile_field passed (field := fun p => p.noticeDestination.toNat)
        (stored := fun v => min 63 (fieldAt v 8 8)) fun p j w _ => storeProfile_noticeDestination p j w
    · exact storeWords_profile_field passed (field := fun p => some p.noticeRoute)
        (stored := fun v => Port.ofRoute (fieldAt v 0 8)) fun p j w valid => storeProfile_noticeRoute valid
  case ringMap =>
    rintro rfl
    refine ⟨?_, ?_, fun p => ?_, storeWords_ringMap_frame s index words⟩
    · exact storeWords_ringMap_field passed (field := RingMap.n) fun m j w _ => storeRingMap_n m j w
    · exact storeWords_ringMap_field passed (field := RingMap.ringId) fun m j w _ => storeRingMap_ringId m j w
    · have place := storeWords_ringMap_field passed (field := fun m => m.ids[p].map (·.val)) (i := p.val + 1)
        (stored := fun w => if w.toNat = 63 then none else some w.toNat) fun m j w valid => storeRingMap_id valid p
      split
      next named => exact place.trans (if_pos named)
      next other => exact Option.map_injective Fin.val_injective (place.trans (if_neg other))
  case events =>
    rintro rfl
    refine ⟨?_, ?_, ?_, ?_, storeWords_events_frame s index words⟩
    · exact storeWords_events_field passed (enable := EventUnit.rise) fun e j w => by rw [storeEvents_eq]; rfl
    · exact storeWords_events_field passed (enable := EventUnit.fall) fun e j w => by rw [storeEvents_eq]; rfl
    · exact storeWords_events_field passed (enable := EventUnit.notify) fun e j w => by rw [storeEvents_eq]; rfl
    · exact storeWords_events_field passed (enable := EventUnit.alert) fun e j w => by rw [storeEvents_eq]; rfl

end Sys2Proof.Machine

/-! PROOFS. The fields of a table word (11): a word formed of fields that do not overlap holds each of them. -/

namespace Sys2Proof.Machine

/-! ### The fields of a word, bit by bit (11) -/

theorem testBit_fieldAt (w : Word) (lo width k : Nat) :
    (fieldAt w lo width).testBit k = (decide (k < width) && w.getLsbD (lo + k)) := by
  rw [fieldAt, BitVec.testBit_toNat, BitVec.getLsbD_extractLsb']

theorem getLsbD_placed (lo v i : Nat) :
    (placed lo v).getLsbD i = (decide (i < 32) && decide (lo ≤ i) && v.testBit (i - lo)) := by
  unfold placed
  rw [BitVec.getLsbD_shiftLeft, BitVec.getLsbD_ofNat]
  have shifted : i < 32 → i - lo < 32 := fun within => by omega
  by_cases above : lo ≤ i
  · by_cases within : i < 32
    · simp [within, above, Nat.not_lt.2 above, shifted within]
    · simp [within]
  · simp [above, Nat.not_le.1 above]

theorem fieldAt_or (v w : Word) (lo width : Nat) : fieldAt (v ||| w) lo width = fieldAt v lo width ||| fieldAt w lo width := by
  refine Nat.eq_of_testBit_eq fun k => ?_
  rw [Nat.testBit_or, testBit_fieldAt, testBit_fieldAt, testBit_fieldAt, BitVec.getLsbD_or, Bool.and_or_distrib_left]

theorem fieldAt_eq_zero {w : Word} {lo width : Nat} (clear : ∀ i, lo ≤ i → i < lo + width → w.getLsbD i = false) :
    fieldAt w lo width = 0 := by
  refine Nat.eq_of_testBit_eq fun k => ?_
  rw [testBit_fieldAt, Nat.zero_testBit]
  by_cases within : k < width
  · rw [clear (lo + k) (by omega) (by omega), Bool.and_false]
  · rw [decide_eq_false within, Bool.false_and]

theorem fieldAt_placed {lo width v : Nat} (size : v < 2 ^ width) (within : lo + width ≤ 32) :
    fieldAt (placed lo v) lo width = v := by
  refine Nat.eq_of_testBit_eq fun k => ?_
  rw [testBit_fieldAt, getLsbD_placed, Nat.add_sub_cancel_left]
  by_cases inside : k < width
  · simp [inside, show lo + k < 32 by omega]
  · rw [decide_eq_false inside, Bool.false_and, Nat.testBit_lt_two_pow]
    exact size.trans_le (Nat.pow_le_pow_right (by decide) (by omega))

/-! ### Words formed of fields -/

/-- The word that holds each listed (lo, width, value) and nothing else. -/
def formed : List (Nat × Nat × Nat) → Word
  | [] => 0#32
  | f :: rest => placed f.1 f.2.2 ||| formed rest

/-- Fields listed from bit `top` downward, none over another, each value within its width. -/
def Fits (top : Nat) : List (Nat × Nat × Nat) → Prop
  | [] => True
  | f :: rest => f.1 + f.2.1 ≤ top ∧ f.2.2 < 2 ^ f.2.1 ∧ Fits f.1 rest

theorem Fits.below {top : Nat} {fields : List (Nat × Nat × Nat)} (fits : Fits top fields) {f : Nat × Nat × Nat}
    (mem : f ∈ fields) : f.1 + f.2.1 ≤ top := by
  induction fields generalizing top with
  | nil => contradiction
  | cons g rest ih =>
    obtain ⟨first, _, others⟩ := fits
    rcases List.mem_cons.1 mem with rfl | later
    · exact first
    · have := ih others later
      omega

/-- A placed value has no bit outside its field. -/
theorem getLsbD_placed_outside {lo width v i : Nat} (size : v < 2 ^ width) (outside : i < lo ∨ lo + width ≤ i) :
    (placed lo v).getLsbD i = false := by
  rw [getLsbD_placed]
  rcases outside with below | above
  · simp [Nat.not_le.2 below]
  · rw [Nat.testBit_lt_two_pow, Bool.and_false]
    exact size.trans_le (Nat.pow_le_pow_right (by decide) (by omega))

theorem getLsbD_formed_outside {top : Nat} {fields : List (Nat × Nat × Nat)} (fits : Fits top fields) {i : Nat}
    (outside : ∀ f ∈ fields, i < f.1 ∨ f.1 + f.2.1 ≤ i) : (formed fields).getLsbD i = false := by
  induction fields generalizing top with
  | nil => exact BitVec.getLsbD_zero
  | cons f rest ih =>
    obtain ⟨_, size, others⟩ := fits
    rw [formed, BitVec.getLsbD_or, getLsbD_placed_outside size (outside f List.mem_cons_self),
      ih others fun g mem => outside g (List.mem_cons_of_mem f mem), Bool.false_or]

theorem fieldAt_formed {top : Nat} {fields : List (Nat × Nat × Nat)} (fits : Fits top fields) (within : top ≤ 32)
    {f : Nat × Nat × Nat} (mem : f ∈ fields) : fieldAt (formed fields) f.1 f.2.1 = f.2.2 := by
  induction fields generalizing top with
  | nil => contradiction
  | cons g rest ih =>
    obtain ⟨first, size, others⟩ := fits
    rw [formed, fieldAt_or]
    rcases List.mem_cons.1 mem with rfl | later
    · have clear : fieldAt (formed rest) f.1 f.2.1 = 0 := fieldAt_eq_zero fun i above _ =>
        getLsbD_formed_outside others fun h h_mem => .inr ((others.below h_mem).trans above)
      rw [fieldAt_placed size (first.trans within), clear, Nat.or_zero]
    · have clear : fieldAt (placed g.1 g.2.2) f.1 f.2.1 = 0 := fieldAt_eq_zero fun i _ below =>
        getLsbD_placed_outside size (.inl (below.trans_le (others.below later)))
      rw [clear, Nat.zero_or, ih others (by omega) later]

/-- A word formed of fields that fit holds each of them, and 0 elsewhere (11, R179). -/
theorem holds_formed {w : Word} {fields : List (Nat × Nat × Nat)} (form : w = formed fields) (fits : Fits 32 fields) :
    Holds w fields := by
  subst form
  exact ⟨fun f mem => fieldAt_formed fits le_rfl mem, fun i outside => getLsbD_formed_outside fits outside⟩

/-- A word of single flags from bit 0 upward. -/
theorem holds_flags {w : Word} {flags : List Bool} (bits : ∀ i, w.getLsbD i = flags.getD i false) :
    Holds w (flags.zipIdx.map fun f => (f.2, 1, f.1.toNat)) := by
  constructor
  · intro f mem
    obtain ⟨⟨b, i⟩, place, rfl⟩ := List.mem_map.1 mem
    rw [List.mk_mem_zipIdx_iff_getElem?] at place
    rw [fieldAt_one, bits, List.getD_eq_getElem?_getD, place]
    rfl
  · intro i outside
    rw [bits, List.getD_eq_default]
    by_contra within
    have named := outside (i.val, 1, flags[i.val].toNat)
      (List.mem_map.2 ⟨(flags[i.val], i.val), List.mk_mem_zipIdx_iff_getElem?.2 (List.getElem?_eq_getElem (by omega)), rfl⟩)
    simp only [Nat.lt_irrefl, false_or] at named
    omega

/-! ### Other words as formed words -/

theorem toNat_placed_zero {v : Nat} (size : v < 2 ^ 32) : (placed 0 v).toNat = v := by
  rw [placed, BitVec.shiftLeft_zero, BitVec.toNat_ofNat, Nat.mod_eq_of_lt size]

theorem setWidth_eq_placed {n : Nat} (v : BitVec n) : v.setWidth 32 = placed 0 v.toNat := by
  rw [placed, BitVec.shiftLeft_zero, ← BitVec.ofNat_toNat]

theorem append_eq_placed (a b : Half) : a ++ b = placed 16 a.toNat ||| placed 0 b.toNat := by
  refine BitVec.eq_of_getLsbD_eq fun i within => ?_
  rw [BitVec.getLsbD_append, BitVec.getLsbD_or, getLsbD_placed, getLsbD_placed, BitVec.testBit_toNat, BitVec.testBit_toNat]
  by_cases lower : i < 16
  · simp [lower, within]
  · simp [lower, within, show 16 ≤ i by omega]

theorem setWidth_shiftLeft_eq_placed (v : Half) (lo : Nat) : v.setWidth 32 <<< lo = placed lo v.toNat := by
  rw [placed, ← BitVec.ofNat_toNat]

end Sys2Proof.Machine

/-! PROOFS. The words that READ returns and the records that POLL returns show the state (O37). -/

namespace Sys2Proof.Machine

/-! ### The codes of the fields (00, 11) -/

theorem flagCode_eq (b : Bool) : flagCode b = b.toNat := by cases b <;> rfl
theorem flagCode_lt (b : Bool) : flagCode b < 2 := by cases b <;> decide
theorem placedBit_eq (lo : Nat) (b : Bool) : placedBit lo b = placed lo (flagCode b) := by rw [flagCode_eq]; rfl

theorem conditionCode_eq (c : Condition) : conditionCode c = c.code := by cases c <;> rfl
theorem conditionCode_lt (c : Condition) : conditionCode c < 7 := by cases c <;> decide
theorem actionCode_eq (a : Action) : actionCode a = a.code := by cases a <;> rfl
theorem actionCode_lt (a : Action) : actionCode a < 3 := by cases a <;> decide
theorem roleCode_eq (r : Role) : roleCode r = r.code := by cases r <;> rfl
theorem roleCode_lt (r : Role) : roleCode r < 7 := by cases r <;> decide
theorem phaseCode_eq (p : Phase) : phaseCode p = p.code := by cases p <;> rfl
theorem phaseCode_lt (p : Phase) : phaseCode p < 4 := by cases p <;> decide

theorem sourceOf_eq (o : Option Source) : sourceOf o = sourceCode o := by
  rcases o with _ | _ | x
  · rfl
  · rfl
  · cases x <;> rfl

theorem sourceOf_lt (o : Option Source) : sourceOf o < 4 := by
  rcases o with _ | _ | x
  · decide
  · decide
  · cases x <;> decide

theorem shownPosition_eq (p : Option (Fin 32)) : shownPosition p = positionCode p := by cases p <;> rfl

theorem shownPosition_lt (p : Option (Fin 32)) : shownPosition p < 256 := by
  cases p with
  | none => decide
  | some q => exact q.isLt.trans (by decide)

theorem portCode_eq (q : Port) : [Port.east, .west, .tributary].idxOf q + 1 = q.routeCode := by cases q <;> rfl
theorem portCode_lt (q : Port) : [Port.east, .west, .tributary].idxOf q + 1 < 4 := by cases q <;> decide

/-! ### Table 0 (R49) -/

theorem identityWords_shown (s : State) : IdentityWordsShown s where
  part := holds_formed (by simp only [formed, BitVec.or_zero, ← setWidth_eq_placed, ← BitVec.or_assoc]; rfl)
    (by simp only [Fits, and_true]; omega)
  idInUse := by
    show (s.identity.nodeId.setWidth 32).toNat = _
    rw [setWidth_eq_placed, toNat_placed_zero (by omega)]
  mode := holds_formed (by
      simp only [formed, BitVec.or_zero, roleCode_eq, shownPosition_eq, ← placedBit_eq, ← BitVec.or_assoc]; rfl)
    (by
      have := flagCode_lt s.joined
      have := roleCode_lt s.resolver.role
      have := shownPosition_lt s.identity.position
      simp only [Fits, and_true]; omega)
  restoredSet := rfl

/-! ### Table 1 (R162) -/

theorem pairWord_holds (v : Sides Half) : Holds (pairWord v) [(16, 16, v.east.toNat), (0, 16, v.west.toNat)] :=
  holds_formed ((append_eq_placed v.east v.west).trans (by rw [formed, formed, formed, BitVec.or_zero]))
    (by simp only [Fits, and_true]; omega)

theorem profileWords_shown {s : State} (h : ProfileSound s) : ProfileWordsShown s where
  weight := pairWord_holds s.profile.weight
  tOn := pairWord_holds s.profile.tOn
  tOff := pairWord_holds s.profile.tOff
  tFail := pairWord_holds s.profile.tFail
  delays := holds_formed (by simp only [formed, BitVec.or_zero]; rfl) (by
      obtain ⟨holdOff, settle, wtr, confirm, hop⟩ := h
      simp only [Fits, and_true]; omega)
  waits := holds_formed (by simp only [formed, BitVec.or_zero]; rfl) (by
      obtain ⟨holdOff, settle, wtr, confirm, hop⟩ := h
      simp only [Fits, and_true]; omega)
  management := holds_formed (by
      simp only [formed, BitVec.or_zero, portCode_eq, ← BitVec.or_assoc]; rfl)
    (by
      obtain ⟨holdOff, settle, wtr, confirm, hop⟩ := h
      have := portCode_lt s.profile.noticeRoute
      simp only [Fits, and_true]; omega)

/-! ### Table 2 (R50, R178) -/

theorem idCode_eq (id : Option (Fin 63)) : idCode id = (id.map (·.val)).getD 63 := by cases id <;> rfl

theorem idCode_le (id : Option (Fin 63)) : idCode id ≤ 63 := by
  cases id with
  | none => exact le_rfl
  | some i => exact i.isLt.le

theorem ringMapWords_shown {s : State} (size : s.ringMap.n ≤ 32) : RingMapWordsShown s where
  size := holds_formed (by simp only [formed, BitVec.or_zero, ← setWidth_eq_placed]; rfl)
    (by simp only [Fits, and_true]; omega)
  entry := fun p => by
    have small := idCode_le s.ringMap.ids[p]
    show (placed 0 (idCode (s.ringMap.idAt p.val))).toNat = _
    rw [idAt_fin, toNat_placed_zero (by omega), idCode_eq]

/-! ### Tables 3 to 8 (R132) -/

theorem recordWords_shown (s : State) : RecordWordsShown s where
  slot := fun i => ⟨congrArg slotWord (elementAt_of_lt _ i.isLt _), congrArg slotWord (elementAt_of_lt _ i.isLt _)⟩
  extra := fun i => ⟨congrArg slotWord (elementAt_of_lt _ i.isLt _), congrArg slotWord (elementAt_of_lt _ i.isLt _)⟩
  circuit := fun i => ⟨congrArg circuitWord (elementAt_of_lt _ i.isLt _), congrArg circuitWord (elementAt_of_lt _ i.isLt _)⟩

/-! ### Table 9 (R60, R85) -/

theorem contentWord_holds (c : Condition) (a : Action) (e : Fin 16) :
    Holds (contentWord c a e) [(8, 3, conditionCode c), (4, 2, actionCode a), (0, 4, e.val)] :=
  holds_formed (by simp only [formed, BitVec.or_zero, conditionCode_eq, actionCode_eq, ← BitVec.or_assoc]; rfl)
    (by
      have := conditionCode_lt c
      have := actionCode_lt a
      simp only [Fits, and_true]; omega)

/-- The word of a span end below the own entries' words (R60). -/
theorem rctWord_entry (s : State) (p : Fin 32) (x : Side) :
    readWord s 9 (2 * p.val + x.offset) =
      placedBit 31 (s.entry p x).learned ||| placed 28 (sourceCode (s.entry p x).source) |||
        contentWord (s.entry p x).condition (s.entry p x).action (s.entry p x).edition := by
  have half : (2 * p.val + x.offset) / 2 = p.val := by cases x <;> simp only [Side.offset] <;> omega
  have side : sideOfIndex (2 * p.val + x.offset) = x := by
    cases x
    · exact if_pos (by simp only [Side.offset]; omega)
    · exact if_neg (by simp only [Side.offset]; omega)
  have below : 2 * p.val + x.offset < 64 := by cases x <;> simp only [Side.offset] <;> omega
  show rctWord s _ = _
  rw [rctWord, if_pos below, half, side]

theorem rctWords_shown (s : State) : RctWordsShown s where
  entry := fun p x => by
    have learned : (if (s.entry p x).source = none then 0 else 1) = flagCode (s.entry p x).learned := by
      unfold Entry.learned
      cases (s.entry p x).source <;> rfl
    dsimp only
    rw [learned]
    refine holds_formed ?_ ?_
    · simp only [rctWord_entry, formed, BitVec.or_zero, contentWord, placedBit_eq, sourceOf_eq, conditionCode_eq,
        actionCode_eq, BitVec.or_assoc]
    · have := flagCode_lt (s.entry p x).learned
      have := sourceOf_lt (s.entry p x).source
      have := conditionCode_lt (s.entry p x).condition
      have := actionCode_lt (s.entry p x).action
      simp only [Fits, and_true]; omega
  own := fun x => by cases x <;> exact contentWord_holds _ _ _

/-! ### Table 10 (R44, R99, R128, R148) -/

/-- What is left of a timer in whole units, rounded up (R90, R128). -/
theorem remainingIn_eq {unit : Nat} (pos : 0 < unit) (t : Timer) : remainingIn unit t = unitsLeft unit t := by
  cases t with
  | none => rfl
  | some n =>
    have parts := Nat.div_add_mod n unit
    have rest := Nat.mod_lt n pos
    unfold remainingIn unitsLeft
    dsimp only
    split
    next whole =>
      have shape : n + (unit - 1) = unit * (n / unit) + (unit - 1) := by omega
      have less : (unit - 1) / unit = 0 := Nat.div_eq_of_lt (by omega)
      rw [shape, Nat.mul_add_div pos, less, Nat.add_zero]
    next started =>
      have shape : n + (unit - 1) = unit * (n / unit + 1) + (n % unit - 1) := by
        rw [Nat.mul_add]
        omega
      have less : (n % unit - 1) / unit = 0 := Nat.div_eq_of_lt (by omega)
      rw [shape, Nat.mul_add_div pos, less, Nat.add_zero]

theorem unitsLeft_le {unit m : Nat} (pos : 0 < unit) {t : Timer} (bound : ∀ n, t = some n → n ≤ unit * m) :
    unitsLeft unit t ≤ m := by
  rw [← remainingIn_eq pos]
  cases t with
  | none => exact Nat.zero_le m
  | some n =>
    have := bound n rfl
    exact Nat.le_of_lt_succ ((Nat.div_lt_iff_lt_mul pos).2 (by rw [Nat.succ_mul, Nat.mul_comm m]; omega))

theorem sideWord_at (s : State) (x : Side) {k : Nat} (within : k < 8) :
    readWord s 10 (8 * x.offset + k) = sideWord s x k := by
  show sideStateWord s _ = _
  cases x
  · rw [sideStateWord, Side.offset, Nat.mul_zero, Nat.zero_add, if_pos within]
  · rw [sideStateWord, Side.offset, if_neg (by omega), Nat.mul_one, Nat.add_sub_cancel_left]

theorem alignmentCode_eq (a : Alignment) : [Alignment.search, .presync, .aligned].idxOf a = a.code := by cases a <;> rfl
theorem alignmentCode_lt (a : Alignment) : [Alignment.search, .presync, .aligned].idxOf a < 3 := by cases a <;> decide
theorem bufferCode_eq (m : BufferMode) : [BufferMode.flushed, .centering, .running].idxOf m = m.code := by cases m <;> rfl
theorem bufferCode_lt (m : BufferMode) : [BufferMode.flushed, .centering, .running].idxOf m < 3 := by cases m <;> decide
theorem qualityCode_eq (q : Quality) : [Quality.good, .fading, .excessive].idxOf q = q.code := by cases q <;> rfl
theorem qualityCode_lt (q : Quality) : [Quality.good, .fading, .excessive].idxOf q < 3 := by cases q <;> decide
theorem holdOffCode_eq (h : HoldOff) : [HoldOff.absent, .holding, .standing].idxOf h = h.code := by cases h <;> rfl
theorem holdOffCode_lt (h : HoldOff) : [HoldOff.absent, .holding, .standing].idxOf h < 3 := by cases h <;> decide

theorem presence_eq {α : Type} (o : Option α) [Decidable (o = none)] : (if o = none then 0 else 1) = flagCode o.isSome := by
  cases o <;> simp [flagCode]

theorem statusWord_shown {s : State} {x : Side} (h : MonitorSound s x) :
    let m := s.monitor.get x
    Holds (statusWord s x)
      [(28, 2, [Quality.good, .fading, .excessive].idxOf m.quality),
        (24, 2, [HoldOff.absent, .holding, .standing].idxOf m.holdOff), (16, 4, m.muteCount),
        (10, 1, if m.settle = none then 0 else 1), (9, 1, flagCode (s.engine.get x).silent),
        (8, 1, flagCode (s.signalling.mapMismatch.get x)), (7, 1, flagCode (s.signalling.neighbourStandalone.get x)),
        (5, 1, flagCode m.flag), (4, 1, flagCode m.defects.excessive), (3, 1, flagCode m.defects.miswired),
        (2, 1, flagCode m.defects.mute), (1, 1, flagCode m.defects.lof), (0, 1, flagCode m.defects.los)] := by
  have mute : (s.monitor.get x).muteCount ≤ 8 := h.muteCount
  dsimp only
  rw [presence_eq]
  refine holds_formed ?_ ?_
  · simp only [formed, BitVec.or_zero, statusWord, placedBit_eq, qualityCode_eq, holdOffCode_eq, BitVec.or_assoc]
  · have := qualityCode_lt (s.monitor.get x).quality
    have := holdOffCode_lt (s.monitor.get x).holdOff
    simp only [Fits, Nat.pow_one, flagCode_lt, true_and, and_true]
    omega

theorem conditionWord_shown (s : State) (x : Side) :
    Holds (sideWord s x 4)
      [(24, 8, (s.condition.get x).detected.condition.code), (16, 8, (s.condition.get x).command.condition.code),
        (8, 8, conditionCode (s.condition.get x).announced), (0, 1, flagCode (s.condition.get x).wtr.isSome)] := by
  have detected := conditionCode_lt (s.condition.get x).detected.condition
  have command := conditionCode_lt (s.condition.get x).command.condition
  have announced := conditionCode_lt (s.condition.get x).announced
  have waiting := flagCode_lt (s.condition.get x).wtr.isSome
  rw [conditionCode_eq] at detected command
  refine holds_formed ?_ ?_
  · simp only [formed, BitVec.or_zero, sideWord, placedBit_eq, conditionCode_eq, BitVec.or_assoc]
  · simp only [Fits, and_true]
    omega

theorem sideWords_shown {s : State} (h : Sound s) (x : Side) : SideWordsShown s x where
  line := by
    have bad : (s.receiver.get x).badWords < 4 := (h.reception.line x).badWords
    have frames : (s.buffer.get x).frames.length ≤ 4 := (h.reception.line x).capacity
    have := alignmentCode_lt (s.receiver.get x).align
    have := bufferCode_lt (s.buffer.get x).mode
    refine holds_formed ((sideWord_at s x (k := 0) (by decide)).trans ?_) ?_
    · simp only [formed, BitVec.or_zero, sideWord, alignmentCode_eq, bufferCode_eq, BitVec.or_assoc]
    · simp only [Fits, and_true]
      omega
  status := by
    rw [sideWord_at s x (by decide)]
    exact statusWord_shown (h.reception.monitor x)
  density := by
    have bound : (s.monitor.get x).density ≤ 33554432 := (h.reception.monitor x).density
    rw [sideWord_at s x (by decide), sideWord, toNat_placed_zero (by omega)]
  rate := by
    rw [sideWord_at s x (by decide), sideWord, setWidth_eq_placed, toNat_placed_zero (by omega)]
  condition := by
    dsimp only
    rw [sideWord_at s x (by decide), presence_eq]
    have shown := conditionWord_shown s x
    generalize (s.condition.get x).detected = d at *
    generalize (s.condition.get x).command = k at *
    cases d <;> cases k <;> exact shown
  waiting := by
    have bound := unitsLeft_le (unit := 10000) (m := 3600) (by decide) (h.timing.wtr x)
    rw [← remainingIn_eq (by decide)] at *
    rw [sideWord_at s x (by decide), sideWord]
    exact toNat_placed_zero (bound.trans_lt (by decide))
  engine := by
    have bound := unitsLeft_le (unit := 100) (m := 500) (by decide) (h.timing.confirm x)
    have := phaseCode_lt (s.engine.get x).phase
    have := flagCode_lt (s.resolver.target.get x)
    have := flagCode_lt (s.engine.get x).confirm.isSome
    dsimp only
    rw [presence_eq]
    refine holds_formed ((sideWord_at s x (by decide)).trans ?_) ?_
    · simp only [formed, BitVec.or_zero, sideWord, placedBit_eq, phaseCode_eq, Config.framesPerUnit,
        remainingIn_eq (show 0 < 100 by decide), BitVec.or_assoc]
    · simp only [Fits, and_true]
      omega
  squelch := by rw [sideWord_at s x (by decide), sideWord]

end Sys2Proof.Machine

/-! PROOFS. Tables 11 and 12 and the poll records show the state (O37). -/

namespace Sys2Proof.Machine

/-! ### Table 11 (R173) -/

theorem counterWord (s : State) {i : Nat} {k : Counter} (place : k.index.val = i) : readWord s 11 i = s.count k := by
  subst place
  exact elementAt_of_lt s.counters k.index.isLt 0#32

/-! ### Table 12 (R166, R169) -/

theorem length_sideConditions (s : State) (x : Side) : (sideConditions s x).length = 9 := rfl

/-- The live values of side x, from bit 0 or bit 9 upward (11 Event bits). -/
theorem liveValues_side (s : State) (x : Side) {i : Nat} (within : i < 9) :
    (liveValues s).getLsbD (9 * x.offset + i) = (sideConditions s x).getD i false := by
  have place : 9 * x.offset + i < 32 := by cases x <;> simp only [Side.offset] <;> omega
  rw [liveValues, BitVec.getLsbD_ofFnLE, dif_pos place]
  cases x
  · show (sideConditions s .east ++ sideConditions s .west ++ nodeConditions s).getD (0 + i) false = _
    rw [Nat.zero_add, List.append_assoc, List.getD_append _ _ _ _ within]
  · show (sideConditions s .east ++ sideConditions s .west ++ nodeConditions s).getD (9 + i) false = _
    rw [List.getD_append _ _ _ _ (by simp only [List.length_append, length_sideConditions]; omega),
      List.getD_append_right _ _ _ _ (by rw [length_sideConditions]; omega), length_sideConditions, Nat.add_sub_cancel_left]

/-- The live values of the node, from bit 18 upward (11 Event bits). -/
theorem liveValues_node (s : State) (i : Nat) : (liveValues s).getLsbD (18 + i) = (nodeConditions s).getD i false := by
  rw [liveValues, BitVec.getLsbD_ofFnLE]
  split
  · rw [List.getD_append_right _ _ _ _ (Nat.le_add_right 18 i)]
    exact congrArg (List.getD _ · false) (Nat.add_sub_cancel_left 18 i)
  next beyond =>
    exact (List.getD_eq_default _ _ (show 7 ≤ i by omega)).symm

theorem restoring_iff (s : State) : restoring s = false ↔ s.resolver.restored = 0#32 := by simp [restoring]

theorem isolated_iff (s : State) : isolated s = true ↔ s.resolver.role = .isolated := by simp [isolated]

theorem extraHeld_iff (s : State) : extraHeld s = true ↔ s.joined = true ∧ s.resolver.role ≠ .normal := by simp [extraHeld]

theorem anyLooped_iff (s : State) :
    anyLooped s = false ↔ (s.engine.get .east).phase = .idle ∧ (s.engine.get .west).phase = .idle := by
  simp [anyLooped, Sides.get]

theorem counterSaturated_iff (s : State) : counterSaturated s = true ↔ ∃ k : Fin 18, s.counters[k] = 0xFFFFFFFF#32 := by
  simp [counterSaturated, counterTop, Vector.any_eq_true, Fin.exists_iff]

theorem presentCode_eq {p : Prop} [Decidable p] {b : Bool} (h : b = true ↔ p) : (if p then 1 else 0) = b.toNat := by
  cases b <;> simp_all

theorem absentCode_eq {p : Prop} [Decidable p] {b : Bool} (h : b = false ↔ p) : (if p then 0 else 1) = b.toNat := by
  cases b <;> simp_all

theorem liveWord_side {s : State} (held : s.events.held = liveValues s) (x : Side) (i : Nat) :
    (readWord s 12 0 >>> (9 * x.offset) &&& 0x1FF#32).getLsbD i = (sideConditions s x).getD i false := by
  have mask : (0x1FF#32).getLsbD i = decide (i < 9) := by
    show (BitVec.ofNat 32 (2 ^ 9 - 1)).getLsbD i = _
    rw [BitVec.getLsbD_ofNat, Nat.testBit_two_pow_sub_one]
    by_cases within : i < 9
    · simp [within, show i < 32 by omega]
    · simp [within]
  show (s.events.held >>> (9 * x.offset) &&& 0x1FF#32).getLsbD i = _
  rw [held, BitVec.getLsbD_and, BitVec.getLsbD_ushiftRight, mask]
  by_cases within : i < 9
  · rw [liveValues_side s x within, decide_eq_true within, Bool.and_true]
  · rw [decide_eq_false within, Bool.and_false]
    exact (List.getD_eq_default _ _ (Nat.not_lt.1 within)).symm

theorem liveWord_node {s : State} (held : s.events.held = liveValues s) (i : Nat) :
    (readWord s 12 0 >>> 18).getLsbD i = (nodeConditions s).getD i false := by
  show (s.events.held >>> 18).getLsbD i = _
  rw [held, BitVec.getLsbD_ushiftRight, liveValues_node]

theorem counterAndEventWords_shown {s : State} (held : s.events.held = liveValues s) : CounterAndEventWordsShown s where
  counters := fun x => by
    cases x <;> exact ⟨counterWord s rfl, counterWord s rfl, counterWord s rfl, counterWord s rfl, counterWord s rfl,
      counterWord s rfl, counterWord s rfl⟩
  nodeCounters := ⟨counterWord s rfl, counterWord s rfl, counterWord s rfl, counterWord s rfl⟩
  live := fun x => by
    have fading : (s.monitor.get x).quality == .fading ↔ (s.monitor.get x).quality = .fading := beq_iff_eq
    simp only [flagCode_eq, presentCode_eq fading]
    exact holds_flags (liveWord_side held x)
  nodeLive := by
    rw [absentCode_eq (restoring_iff s), presentCode_eq (isolated_iff s), presentCode_eq (extraHeld_iff s),
      absentCode_eq (anyLooped_iff s), flagCode_eq, flagCode_eq, presentCode_eq (counterSaturated_iff s)]
    exact holds_flags (liveWord_node held)
  masks := ⟨rfl, rfl, rfl, rfl, rfl⟩
  notices := holds_formed (by simp only [formed, BitVec.or_zero, ← placedBit_eq, ← setWidth_eq_placed]; rfl) (by
      have := flagCode_lt s.events.pending
      simp only [Fits, and_true]; omega)

/-! ### The map digest (R52) -/

theorem digestTerm_eq (m : RingMap) (p : Fin 32) :
    m.digestTerm p.val = (p.val + 1) * ((m.ids[p]).map (·.val)).getD 0 := by
  unfold RingMap.digestTerm
  rw [idAt_fin]
  cases m.ids[p] <;> rfl

/-- The positions at or above N add nothing to a sum over the positions below N. -/
theorem sum_range_below {n m : Nat} (h : n ≤ m) (f : Nat → Nat) :
    ((List.range m).map fun p => if p < n then f p else 0).sum = ((List.range n).map f).sum := by
  induction m, h using Nat.le_induction with
  | base =>
    refine congrArg List.sum (List.map_congr_left fun p mem => if_pos (List.mem_range.1 mem))
  | succ m above ih =>
    rw [List.range_succ, List.map_append, List.sum_append, ih, List.map_singleton, if_neg (by omega), List.sum_singleton,
      Nat.add_zero]

theorem digest_toNat {m : RingMap} (size : m.n ≤ 32) :
    m.digest.toNat = (m.n * 4096 + ((List.finRange 32).map fun p =>
      if p.val < m.n then (p.val + 1) * ((m.ids[p]).map (·.val)).getD 0 else 0).sum) % 65536 := by
  have terms : ((List.finRange 32).map fun p : Fin 32 =>
      if p.val < m.n then (p.val + 1) * ((m.ids[p]).map (·.val)).getD 0 else 0) =
      (List.range 32).map fun p => if p < m.n then m.digestTerm p else 0 := by
    rw [← List.map_coe_finRange_eq_range, List.map_map]
    exact List.map_congr_left fun p _ => by rw [← digestTerm_eq]; rfl
  rw [terms, sum_range_below size]
  exact BitVec.toNat_ofNat _ _

/-! ### The own segment's ends (R104) -/

theorem neighbourOf_lt {n : Nat} (pos : 0 < n) (p : Nat) (x : Side) : neighbourOf n p x < n := by
  cases x <;> exact Nat.mod_lt _ pos

theorem segmentFirst_lt {n : Nat} (pos : 0 < n) (size : n ≤ 32) (restored : Bits) (fuel : Nat) {q : Nat} (place : q < 32) :
    segmentFirst n restored fuel q < 32 := by
  induction fuel generalizing q with
  | zero => exact place
  | succ fuel ih =>
    unfold segmentFirst
    split
    · exact place
    · exact ih ((neighbourOf_lt pos q .west).trans_le size)

theorem segmentLast_lt {n : Nat} (pos : 0 < n) (size : n ≤ 32) (restored : Bits) (fuel : Nat) {q : Nat} (place : q < 32) :
    segmentLast n restored fuel q < 32 := by
  induction fuel generalizing q with
  | zero => exact place
  | succ fuel ih =>
    unfold segmentLast
    split
    · exact place
    · exact ih ((neighbourOf_lt pos q .east).trans_le size)

theorem ownSegment_lt {n p : Nat} (pos : 0 < n) (size : n ≤ 32) (restored : Bits) (place : p < 32) :
    (ownSegment n restored p).1 < 32 ∧ (ownSegment n restored p).2 < 32 := by
  unfold ownSegment
  split
  · exact ⟨Nat.zero_lt_succ 31, show n - 1 < 32 by omega⟩
  · exact ⟨segmentFirst_lt pos size restored n place, segmentLast_lt pos size restored n place⟩

/-- The ends of the own segment of a sound state are positions. -/
theorem segment_lt {s : State} (h : RestorationSound s) {a b : Nat} (own : s.resolver.segment = some (a, b)) :
    a < 32 ∧ b < 32 := by
  rw [h.resolver] at own
  unfold State.resolved at own
  split at own
  next p joined _ =>
    obtain ⟨⟨least, size⟩, _⟩ := (complete_iff s.ringMap).1 (h.identity.complete joined)
    have ends := ownSegment_lt (p := p.val) (show 0 < s.ringMap.n by omega) size s.chooseRestored p.isLt
    simp only [Option.some.injEq] at own
    rwa [own] at ends
  next => simp at own

theorem segmentCode_eq (g : Option (Nat × Nat)) :
    segmentCode g = placed 24 ((g.map (·.1)).getD 0xFF) ||| placed 16 ((g.map (·.2)).getD 0xFF) := by
  rcases g with _ | ⟨a, b⟩ <;> rfl

theorem segmentEnds_lt {s : State} (h : RestorationSound s) :
    (s.resolver.segment.map (·.1)).getD 0xFF < 256 ∧ (s.resolver.segment.map (·.2)).getD 0xFF < 256 := by
  rcases own : s.resolver.segment with _ | ⟨a, b⟩
  · decide
  · obtain ⟨first, last⟩ := segment_lt h own
    exact ⟨first.trans (by decide), last.trans (by decide)⟩

/-! ### The poll records (R165) -/

theorem pollRecords_shown {s : State} (h : Sound s) : PollRecordsShown s where
  node := by
    refine ⟨_, _, _, _, rfl, ?ids, ?ends, ?conditions, ?flags⟩
    case ids =>
      have := flagCode_lt s.joined
      have := shownPosition_lt s.identity.position
      have := roleCode_lt s.resolver.role
      refine holds_formed ?_ ?_
      · simp only [formed, BitVec.or_zero, placedBit_eq, shownPosition_eq, roleCode_eq, BitVec.or_assoc]
      · simp only [Fits, and_true]
        omega
    case ends =>
      obtain ⟨first, last⟩ := segmentEnds_lt h.restoration
      refine holds_formed ?_ ?_
      · simp only [formed, BitVec.or_zero, placedBit_eq, segmentCode_eq, BitVec.or_assoc]
      · simp only [Fits, Nat.pow_one, flagCode_lt, true_and, and_true]
        omega
    case conditions =>
      have east := conditionCode_lt (s.condition.get .east).announced
      have west := conditionCode_lt (s.condition.get .west).announced
      have eastPhase := phaseCode_lt (s.engine.get .east).phase
      have westPhase := phaseCode_lt (s.engine.get .west).phase
      refine holds_formed ?_ ?_
      · simp only [formed, BitVec.or_zero, conditionCode_eq, phaseCode_eq, BitVec.or_assoc, Sides.get]
      · simp only [Fits, and_true]
        omega
    case flags =>
      rw [presence_eq, ← digest_toNat h.tables.mapSize]
      refine holds_formed ?_ ?_
      · simp only [formed, BitVec.or_zero, placedBit_eq, setWidth_shiftLeft_eq_placed, BitVec.or_assoc]
      · simp only [Fits, Nat.pow_one, flagCode_lt, true_and, and_true]
        omega
  side := fun x => by
    rw [sideWord_at s x (by decide), sideWord_at s x (by decide), sideWord_at s x (by decide)]
    rfl
  counters := rfl

/-- Settles O37: each word is formed of the fields that 11 lists, and the invariants keep each value within its field. -/
theorem wordsShowTheState : Obligations.WordsShowTheState := fun s h =>
  ⟨identityWords_shown s, profileWords_shown h.profile, ringMapWords_shown h.tables.mapSize, recordWords_shown s,
    rctWords_shown s, sideWords_shown h, counterAndEventWords_shown h.events.held, pollRecords_shown h⟩

end Sys2Proof.Machine

/-! PROOFS. The invariant of restoration in three parts: what every event's work keeps to, what the announced conditions are,
and what a table-change notice settles (R53 to R122; log 17). -/

namespace Sys2Proof.Machine

/-! ### A Loop Engine and its target, a Loop Engine and its partner (R109 to R122) -/

/-- A Loop Engine as its own target has it (R112, R115, R116, R120, R122). -/
structure Engine.Follows (e : Engine) (target : Bool) : Prop where
  target : target = true ↔ (e.phase = .bridged ∨ e.phase = .looped)
  confirm : e.confirm.isSome ↔ (e.phase = .bridged ∨ e.phase = .unlooping)
  silent : e.phase = .idle → e.silent = false

/-- A Loop Engine that has taken the answer of its partner, if there was one (R113, R117, R118, R122). -/
structure Engine.Answered (e : Engine) (partner : Action) : Prop where
  waiting : e.phase = .bridged → partner = .pass
  releasing : e.phase = .unlooping → partner = .looped
  unanswered : e.phase = .looped → e.silent = true → partner = .pass

theorem engineSound_iff (s : State) (x : Side) :
    EngineSound s x ↔ (s.engine.get x).Follows (s.resolver.target.get x) ∧
      (s.joined = false → (s.engine.get x).phase = .idle) ∧ (s.engine.get x).Answered (s.partnerAction x) :=
  ⟨fun h => ⟨⟨h.target, h.confirm, h.silent⟩, h.standalone, h.waiting, h.releasing, h.unanswered⟩,
    fun ⟨f, alone, a⟩ => ⟨f.target, f.confirm, f.silent, alone, a.waiting, a.releasing, a.unanswered⟩⟩

section
variable {e : Engine} {old : Bool} {a : Action}

/-- An engine follows a change of its target (R112, R115, R116, R120). -/
theorem Engine.Follows.retarget (h : e.Follows old) {timer : Timer} (started : timer.isSome) (new : Bool) :
    (e.retarget timer old new).Follows new := by
  obtain ⟨same, fromIdle, fromUnlooping, fromBridged, fromLooped⟩ := e.retarget_spec timer new
  obtain ⟨target, confirm, silent⟩ := h
  cases old <;> cases new
  · rw [same]
    exact ⟨target, confirm, silent⟩
  · cases p : e.phase with
    | idle => rw [fromIdle p]; exact ⟨by simp, by simp [started], nofun⟩
    | unlooping => rw [fromUnlooping p]; exact ⟨by simp, by simp [started], nofun⟩
    | bridged | looped => simp [p] at target
  · cases p : e.phase with
    | bridged => rw [fromBridged p]; exact ⟨by simp, by simp, fun _ => rfl⟩
    | looped => rw [fromLooped p]; exact ⟨by simp, by simp [started], nofun⟩
    | idle | unlooping => simp [p] at target
  · rw [same]
    exact ⟨target, confirm, silent⟩

/-- A partner test moves no engine off its target (R113, R117, R118). -/
theorem Engine.Follows.partnerTest (h : e.Follows old) (a : Action) : (e.partnerTest a).Follows old := by
  obtain ⟨idle, bridged, looped, unlooping⟩ := e.partnerTest_spec a
  have kept := h
  obtain ⟨target, confirm, silent⟩ := h
  cases p : e.phase with
  | idle => rw [idle p]; exact kept
  | bridged =>
    rw [bridged p]
    split
    · exact kept
    · exact ⟨by simpa [p] using target, by simp, nofun⟩
  | looped =>
    rw [looped p]
    split
    · exact kept
    · exact ⟨by simpa [p] using target, by simpa [p] using confirm, nofun⟩
  | unlooping =>
    rw [unlooping p]
    split
    · exact kept
    · exact ⟨by simpa [p] using target, by simp, fun _ => rfl⟩

theorem Engine.partnerTest_answered (e : Engine) (a : Action) : (e.partnerTest a).Answered a := by
  obtain ⟨idle, bridged, looped, unlooping⟩ := e.partnerTest_spec a
  cases p : e.phase with
  | idle => rw [idle p]; constructor <;> simp [p]
  | bridged =>
    rw [bridged p]
    split
    next pass => exact ⟨fun _ => pass, by simp [p], by simp [p]⟩
    next => exact ⟨nofun, nofun, nofun⟩
  | looped =>
    rw [looped p]
    split
    next pass => exact ⟨by simp [p], by simp [p], fun _ _ => pass⟩
    next => exact ⟨nofun, nofun, nofun⟩
  | unlooping =>
    rw [unlooping p]
    split
    next selects => exact ⟨by simp [p], fun _ => selects, by simp [p]⟩
    next => exact ⟨nofun, nofun, nofun⟩

/-- A partner test finds nothing new for an engine that has taken its answer (R113, R117, R118). -/
theorem Engine.Answered.partnerTest_eq (h : e.Answered a) : e.partnerTest a = e := by
  obtain ⟨phase, timer, silent⟩ := e
  obtain ⟨waiting, releasing, unanswered⟩ := h
  obtain ⟨-, bridged, looped, unlooping⟩ := Engine.partnerTest_spec ⟨phase, timer, silent⟩ a
  cases phase with
  | idle => rfl
  | bridged => rw [bridged rfl, if_pos (waiting rfl)]
  | looped =>
    rw [looped rfl]
    cases silent with
    | false => simp
    | true => rw [if_pos (unanswered rfl rfl)]
  | unlooping => rw [unlooping rfl, if_pos (releasing rfl)]

/-- An expiry moves no engine off its target (R114, R119). -/
theorem Engine.Follows.expire (h : e.Follows old) : e.expire.Follows old := by
  have kept := h
  obtain ⟨target, confirm, silent⟩ := h
  unfold Engine.expire
  split
  next p => exact ⟨by simpa [p] using target, by simp, nofun⟩
  next p => exact ⟨by simpa [p] using target, by simp, fun _ => rfl⟩
  next => exact kept

/-- An expiry comes where there was no answer (R114, R119). -/
theorem Engine.Answered.expire (h : e.Answered a) : e.expire.Answered a := by
  unfold Engine.expire
  split
  next p => exact ⟨nofun, nofun, fun _ _ => h.waiting p⟩
  next => exact ⟨nofun, nofun, nofun⟩
  next => exact h

end

/-! ### The three parts of the invariant -/

/-- What the work of every event keeps to, whether or not its notices are handed on yet: the identity, the table, the detected
conditions and commands, the own actions, and the engines by the targets that the Resolver last gave them. -/
structure Consistent (s : State) : Prop where
  identity : IdentitySound s
  rct : RctSound s
  wtr : ∀ x, (s.condition.get x).wtr.isSome ↔ (s.condition.get x).detected = .hold
  commands : s.joined = false → (∀ x, (s.condition.get x).command = .none) ∧ s.park = false
  ownAction : ∀ x, (s.signalling.own.get x).action = (s.engine.get x).phase.action
  follows : ∀ x, (s.engine.get x).Follows (s.resolver.target.get x)
  standalone : s.joined = false → ∀ x, (s.engine.get x).phase = .idle

/-- Such a state whose announced conditions are formed of their inputs and stand in the own entries (R62, R98). -/
structure Announced (s : State) : Prop extends Consistent s where
  announced : ∀ x, (s.condition.get x).announced = (s.condition.get x).highest s.park
  ownCondition : ∀ x, (s.signalling.own.get x).condition = (s.condition.get x).announced

/-- No MANUAL command stands while a learned entry is FADE or higher (R93, R96). -/
def ManualDropped (s : State) : Prop :=
  s.learnedTrouble = true → ∀ x, (s.condition.get x).command ≠ .manual

/-- What table-change notices settle: MANUAL commands, the Resolver's results and the partner tests (R96, R100, R110). -/
structure Settled (s : State) : Prop where
  manual : ManualDropped s
  resolver : s.resolver = s.resolved
  answered : ∀ x, (s.engine.get x).Answered (s.partnerAction x)

theorem restorationSound_iff (s : State) : RestorationSound s ↔ Announced s ∧ Settled s where
  mp h :=
    have engine x := (engineSound_iff s x).1 (h.engine x)
    ⟨{ identity := h.identity, rct := h.rct, wtr := fun x => (h.condition x).wtr
       commands := fun alone =>
        ⟨fun x => ((h.condition x).commands alone).1, ((h.condition .east).commands alone).2⟩
       ownAction := fun x => (h.condition x).ownAction, follows := fun x => (engine x).1
       standalone := fun alone x => (engine x).2.1 alone, announced := fun x => (h.condition x).announced
       ownCondition := fun x => (h.condition x).ownCondition },
      h.manual, h.resolver, fun x => (engine x).2.2⟩
  mpr := fun ⟨h, k⟩ =>
    { identity := h.identity, rct := h.rct
      condition := fun x =>
        ⟨h.wtr x, h.announced x, fun alone => ⟨(h.commands alone).1 x, (h.commands alone).2⟩, h.ownCondition x,
          h.ownAction x⟩
      manual := k.manual, resolver := k.resolver
      engine := fun x =>
        (engineSound_iff s x).2 ⟨h.follows x, fun alone => h.standalone alone x, k.answered x⟩ }

/-! ### What the table shows -/

/-- The table of s and t shows the same conditions and actions, in the same ring (R79). -/
structure TableShown (s t : State) : Prop where
  identity : t.identity = s.identity
  ringMap : t.ringMap = s.ringMap
  conditions : TablesAgree Entry.condition s t
  actions : TablesAgree Entry.action s t

section
variable {s t : State}

theorem TableShown.resolved (h : TableShown s t) : t.resolved = s.resolved :=
  resolved_congr h.identity (congrArg _ h.ringMap) h.conditions h.actions

theorem TableShown.partnerAction (h : TableShown s t) (x : Side) : t.partnerAction x = s.partnerAction x := by
  unfold State.partnerAction Entry.countedAction
  rw [h.identity, h.ringMap]
  split
  · rw [(h.actions _ _).1, (h.actions _ _).2]
  · rfl

theorem learnedTrouble_congr (h : TablesAgree Entry.condition s t) : t.learnedTrouble = s.learnedTrouble :=
  anyLearned_congr h fun c => decide (Condition.fade.code ≤ c.code)

/-- The own entries are seen in the table while the part is JOINED alone, and by their content (R61, R62). -/
theorem TableShown.of_own (identity : t.identity = s.identity) (ringMap : t.ringMap = s.ringMap)
    (rct : t.signalling.rct = s.signalling.rct)
    (own : s.joined = true → ∀ x, (t.signalling.own.get x).content = (s.signalling.own.get x).content) :
    TableShown s t := by
  have agree (α : Type) (read : Entry → α)
      (content : ∀ o o' : OwnEntry, o'.content = o.content →
        read ⟨o'.condition, o'.action, o'.edition, some .own⟩ = read ⟨o.condition, o.action, o.edition, some .own⟩) :
      TablesAgree read s t := by
    cases alone : s.joined with
    | true => exact tablesAgree_of_own identity rct fun x => content _ _ (own alone x)
    | false =>
      intro p x
      have alone' : t.joined = false := by
        rw [State.joined, identity]
        exact alone
      unfold State.entry
      rw [alone, alone', rct]
      exact ⟨rfl, rfl⟩
  exact ⟨identity, ringMap, agree _ _ fun _ _ h => congrArg Prod.fst h, agree _ _ fun _ _ h => congrArg Prod.snd h⟩

/-- Where the table shows the same, what is settled stays so. -/
theorem Settled.congr (h : Settled s) (shown : TableShown s t)
    (command : ∀ x, (t.condition.get x).command = (s.condition.get x).command) (resolver : t.resolver = s.resolver)
    (engine : ∀ x, (t.engine.get x).phase = (s.engine.get x).phase ∧ (t.engine.get x).silent = (s.engine.get x).silent) :
    Settled t where
  manual := by
    unfold ManualDropped
    rw [learnedTrouble_congr shown.conditions]
    exact fun trouble x => command x ▸ h.manual trouble x
  resolver := resolver.trans (h.resolver.trans shown.resolved.symm)
  answered := fun x => by
    obtain ⟨phase, silent⟩ := engine x
    obtain ⟨waiting, releasing, unanswered⟩ := h.answered x
    rw [shown.partnerAction]
    exact ⟨phase ▸ waiting, phase ▸ releasing, by rw [phase, silent]; exact unanswered⟩

/-- A JOINED part stands at a position of a ring of three nodes or more (R53, R55). -/
theorem IdentitySound.ring (h : IdentitySound s) (joined : s.joined = true) :
    2 ≤ s.ringMap.n ∧ ∀ p, s.identity.position = some p → p.val < s.ringMap.n := by
  obtain ⟨p, own, named⟩ := h.position joined
  have size := ((complete_iff _).1 (h.complete joined)).1.1
  refine ⟨by omega, fun q at' => ?_⟩
  cases own.symm.trans at'
  exact (positionOf_some named).1

end

/-! ### States alike in what restoration rests on -/

theorem IdentitySound.congr {s t : State} (h : IdentitySound s) (identity : t.identity = s.identity)
    (ringMap : t.ringMap = s.ringMap) : IdentitySound t := by
  have joined : t.joined = s.joined := congrArg Identity.joined identity
  exact ⟨by rw [joined, identity]; exact h.standalone, by rw [joined, ringMap]; exact h.complete,
    by rw [joined, identity, ringMap]; exact h.position⟩

theorem RctSound.congr {s t : State} (h : RctSound s) (identity : t.identity = s.identity) (ringMap : t.ringMap = s.ringMap)
    (rct : t.signalling.rct = s.signalling.rct) : RctSound t := by
  have joined : t.joined = s.joined := congrArg Identity.joined identity
  exact ⟨by rw [rct]; exact h.unlearned, by rw [rct]; exact h.remote, by rw [rct, joined]; exact h.standalone,
    by rw [rct, ringMap]; exact h.inert⟩

/-- t holds what s holds of all that the invariant rests on, but for editions, what running timers have left to count, and the
Resolver's results besides the targets. -/
structure Alike (s t : State) : Prop where
  identity : t.identity = s.identity
  ringMap : t.ringMap = s.ringMap
  rct : t.signalling.rct = s.signalling.rct
  park : t.park = s.park
  condition : ∀ x, t.condition.get x = { s.condition.get x with wtr := (t.condition.get x).wtr }
  wtr : ∀ x, (t.condition.get x).wtr.isSome = (s.condition.get x).wtr.isSome
  content : ∀ x, (t.signalling.own.get x).content = (s.signalling.own.get x).content
  target : t.resolver.target = s.resolver.target
  engine : ∀ x, t.engine.get x = { s.engine.get x with confirm := (t.engine.get x).confirm }
  confirm : ∀ x, (t.engine.get x).confirm.isSome = (s.engine.get x).confirm.isSome

section
variable {s t : State}

theorem Alike.joined (k : Alike s t) : t.joined = s.joined := congrArg Identity.joined k.identity

theorem Alike.shown (k : Alike s t) : TableShown s t := .of_own k.identity k.ringMap k.rct fun _ => k.content

/-- Of equal registers, and own entries of equal content. -/
theorem Alike.of_frame (frame : t = { t with
      identity := s.identity, ringMap := s.ringMap, park := s.park, condition := s.condition
      resolver := { t.resolver with target := s.resolver.target }, engine := s.engine
      signalling := { t.signalling with rct := s.signalling.rct } })
    (content : ∀ x, (t.signalling.own.get x).content = (s.signalling.own.get x).content) : Alike s t where
  identity := by rw [frame]
  ringMap := by rw [frame]
  rct := by rw [frame]
  park := by rw [frame]
  condition := fun x => by rw [frame]
  wtr := fun x => by rw [frame]
  content := content
  target := by rw [frame]
  engine := fun x => by rw [frame]
  confirm := fun x => by rw [frame]

theorem Announced.congr (h : Announced s) (k : Alike s t) : Announced t where
  identity := h.identity.congr k.identity k.ringMap
  rct := h.rct.congr k.identity k.ringMap k.rct
  wtr := fun x => by
    rw [k.wtr, k.condition]
    exact h.wtr x
  commands := fun alone => by
    obtain ⟨command, park⟩ := h.commands (k.joined ▸ alone)
    exact ⟨fun x => by rw [k.condition]; exact command x, k.park.trans park⟩
  ownAction := fun x => by
    rw [k.engine]
    exact (congrArg Prod.snd (k.content x)).trans (h.ownAction x)
  follows := fun x => by
    obtain ⟨target, confirm, silent⟩ := h.follows x
    constructor
    · rw [k.target, k.engine]
      exact target
    · rw [k.confirm, k.engine]
      exact confirm
    · rw [k.engine]
      exact silent
  standalone := fun alone x => by
    rw [k.engine]
    exact h.standalone (k.joined ▸ alone) x
  announced := fun x => by
    rw [k.condition, k.park]
    exact h.announced x
  ownCondition := fun x => by
    rw [k.condition]
    exact (congrArg Prod.fst (k.content x)).trans (h.ownCondition x)

theorem RestorationSound.congr (h : RestorationSound s) (k : Alike s t) (resolver : t.resolver = s.resolver) :
    RestorationSound t := by
  obtain ⟨announced, settled⟩ := (restorationSound_iff s).1 h
  refine (restorationSound_iff t).2 ⟨announced.congr k, settled.congr k.shown (fun x => ?_) resolver fun x => ?_⟩
  · rw [k.condition]
  · rw [k.engine]
    exact ⟨rfl, rfl⟩

end

/-! ### Table-change notices (R63, R96, R98, R100, R110; log 17) -/

section
variable {s : State}

/-- The announced conditions formed afresh stand in the own entries (R98). -/
theorem Consistent.formAnnounced (h : Consistent s) : Announced (formAnnounced s) where
  identity := ⟨h.identity.standalone, h.identity.complete, h.identity.position⟩
  rct := ⟨h.rct.unlearned, h.rct.remote, h.rct.standalone, h.rct.inert⟩
  wtr := fun x => by cases x; exacts [h.wtr .east, h.wtr .west]
  commands := fun alone =>
    have ⟨command, park⟩ := h.commands alone
    ⟨fun x => by cases x; exacts [command .east, command .west], park⟩
  ownAction := fun x => by cases x; exacts [h.ownAction .east, h.ownAction .west]
  follows := h.follows
  standalone := h.standalone
  announced := fun x => by cases x <;> rfl
  ownCondition := fun x => by cases x <;> rfl

theorem dropManual_announced (h : Announced s) : Announced (dropManual s) := by
  unfold dropManual
  split
  · refine Consistent.formAnnounced ⟨⟨h.identity.standalone, h.identity.complete, h.identity.position⟩,
      ⟨h.rct.unlearned, h.rct.remote, h.rct.standalone, h.rct.inert⟩, fun x => ?_, fun alone => ?_, h.ownAction, h.follows,
      h.standalone⟩
    · have kept : ∀ c : ConditionSide, (c.wtr.isSome ↔ c.detected = .hold) →
          (c.dropManual.wtr.isSome ↔ c.dropManual.detected = .hold) := fun c k => by simpa using k
      cases x
      · exact kept _ (h.wtr .east)
      · exact kept _ (h.wtr .west)
    · have kept : ∀ c : ConditionSide, c.command = .none → c.dropManual.command = .none := fun c k => by simp [k]
      obtain ⟨command, park⟩ := h.commands alone
      refine ⟨fun x => ?_, park⟩
      cases x
      · exact kept _ (command .east)
      · exact kept _ (command .west)
  · exact h

/-- The drop leaves no MANUAL command to drop (R96). -/
theorem dropManual_manualDropped (s : State) : ManualDropped (dropManual s) := by
  unfold dropManual
  split
  · rintro - x manual
    have gone : ∀ c : ConditionSide, c.dropManual.command ≠ .manual := fun c => by
      rw [ConditionSide.dropManual_command]
      split
      · nofun
      next k => exact k
    cases x
    · exact gone _ manual
    · exact gone _ manual
  next due =>
    rintro trouble x manual
    refine due ?_
    cases x <;> simp_all [Sides.get]

theorem ManualDropped.dropManual_eq (h : ManualDropped s) : dropManual s = s := by
  unfold dropManual
  rw [if_neg]
  intro due
  obtain ⟨trouble, manual⟩ := (Bool.and_eq_true _ _).mp due
  have none := h trouble
  rcases (Bool.or_eq_true _ _).mp manual with east | west
  · exact none .east (eq_of_beq east)
  · exact none .west (eq_of_beq west)

/-- The Resolver's results of the table as it stands, and both engines with their actions by them (R100, R110). -/
def State.notified (s : State) : State :=
  { s with
    resolver := s.resolved, engine := ⟨s.engineAfter .east, s.engineAfter .west⟩
    signalling := { s.signalling with
      own := ownWithActions s.signalling.own ⟨s.engineAfter .east, s.engineAfter .west⟩ } }

/-- A pass of a notice is the drop test, then what it settles; the far end of a span is a remote entry, so an engine's action
reaches no partner test. -/
theorem noticePass_eq_notified (h : Consistent s) (joined : s.joined = true) : noticePass s = (dropManual s).notified := by
  have frame := dropManual_frame s
  obtain ⟨size, position⟩ := h.identity.ring joined
  have ringMap : (dropManual s).ringMap = s.ringMap := by rw [frame]
  have identity : (dropManual s).identity = s.identity := by rw [frame]
  rw [← ringMap] at size position
  rw [← identity] at position
  unfold noticePass
  dsimp only
  generalize dropManual s = u at *
  have east : (recompute u).partnerAction .east = u.partnerAction .east := partnerAction_congr rfl rfl rfl size position .east
  have west (old : Bool) : (engineNotice .east old (recompute u)).partnerAction .west = u.partnerAction .west :=
    partnerAction_congr (s := u) (t := engineNotice .east old (recompute u)) rfl rfl rfl size position .west
  rw [engineNotice_eq .west, west, engineNotice_eq .east, east]
  rfl

theorem Announced.notified (h : Announced s) (joined : s.joined = true) : Announced s.notified where
  identity := ⟨h.identity.standalone, h.identity.complete, h.identity.position⟩
  rct := ⟨h.rct.unlearned, h.rct.remote, h.rct.standalone, h.rct.inert⟩
  wtr := h.wtr
  commands := h.commands
  ownAction := fun x => by cases x <;> rfl
  follows := fun x => by
    have after (y : Side) : (s.engineAfter y).Follows (s.resolved.target.get y) :=
      ((h.follows y).retarget rfl _).partnerTest _
    cases x
    · exact after .east
    · exact after .west
  standalone := fun alone => absurd (alone.symm.trans joined) nofun
  announced := h.announced
  ownCondition := fun x => by cases x; exacts [h.ownCondition .east, h.ownCondition .west]

/-- What a pass settles shows the same conditions, and the same actions of the far ends. -/
theorem notified_conditions (s : State) : TablesAgree Entry.condition s s.notified :=
  tablesAgree_of_own rfl rfl fun x => by cases x <;> rfl

theorem notified_manualDropped (h : ManualDropped s) : ManualDropped s.notified := by
  unfold ManualDropped
  rw [learnedTrouble_congr (notified_conditions s)]
  exact h

theorem notified_answered (h : Consistent s) (joined : s.joined = true) (x : Side) :
    (s.notified.engine.get x).Answered (s.notified.partnerAction x) := by
  obtain ⟨size, position⟩ := h.identity.ring joined
  rw [partnerAction_congr (s := s) (t := s.notified) rfl rfl rfl size position x]
  cases x <;> exact Engine.partnerTest_answered _ _

/-- Where the targets stand and no partner test finds an answer, a pass settles the ring-quiet flag and the role alone (R110). -/
theorem notified_eq (target : s.resolver.target = s.resolved.target)
    (answered : ∀ x, (s.engine.get x).Answered (s.partnerAction x))
    (action : ∀ x, (s.signalling.own.get x).action = (s.engine.get x).phase.action) :
    s.notified = { s with resolver := s.resolved } := by
  have engine (x : Side) : s.engineAfter x = s.engine.get x := by
    unfold State.engineAfter
    rw [target, (Engine.retarget_spec _ _ _).1, (answered x).partnerTest_eq]
  have own : ownWithActions s.signalling.own ⟨s.engine.get .east, s.engine.get .west⟩ = s.signalling.own := by
    unfold ownWithActions
    rw [← action .east, ← action .west]
    rfl
  unfold State.notified
  rw [engine, engine, own]
  rfl

/-- The Resolver's results settle with the table that shows what they were computed from. -/
theorem settled_setResolver (manual : ManualDropped s) (answered : ∀ x, (s.engine.get x).Answered (s.partnerAction x)) :
    Settled { s with resolver := s.resolved } :=
  ⟨manual, (setResolver_resolved s _).symm, answered⟩

/-- After a table-change notice a JOINED part is sound: what a first pass leaves of the ring-quiet flag and the role a second
one settles, and no more is left (log 17). -/
theorem tableNotice_sound (h : Announced s) (joined : s.joined = true) : RestorationSound (tableNotice s) := by
  have dropped := dropManual_announced h
  have manual := dropManual_manualDropped s
  have frame := dropManual_frame s
  have joined' : (dropManual s).joined = true := by
    rw [State.joined, frame]
    exact joined
  have actions (x : Side) : ((dropManual s).signalling.own.get x).action = (s.signalling.own.get x).action := by
    rw [dropped.ownAction, h.ownAction]
    unfold dropManual
    split <;> rfl
  rw [restorationSound_iff]
  unfold tableNotice
  dsimp only
  rw [noticePass_eq_notified h.toConsistent joined]
  generalize dropManual s = u at *
  have passed := dropped.notified joined'
  have answered := notified_answered dropped.toConsistent joined'
  have still := notified_manualDropped manual
  split
  next same =>
    have content (x : Side) : (u.notified.signalling.own.get x).content = (s.signalling.own.get x).content := by
      unfold State.ownContent at same
      cases x
      · exact congrArg Prod.fst same
      · exact congrArg Prod.snd same
    have shown : TableShown u u.notified :=
      ⟨rfl, rfl, notified_conditions u, tablesAgree_of_own rfl rfl fun x =>
        (congrArg Prod.snd (content x)).trans (actions x).symm⟩
    exact ⟨passed, still, shown.resolved.symm, answered⟩
  next =>
    have target : u.notified.resolver.target = u.notified.resolved.target :=
      (resolved_target_congr (s := u) (t := u.notified) rfl rfl (notified_conditions u)).symm
    rw [noticePass_eq_notified passed.toConsistent joined', still.dropManual_eq, notified_eq target answered passed.ownAction]
    exact ⟨passed.congr (.of_frame (by rw [target]) fun _ => rfl), settled_setResolver still answered⟩

/-- The notice handed where the own content of a JOINED part changes from u to v (R63, R64). -/
def noticed (u v : State) : State :=
  if v.joined && decide (v.ownContent ≠ u.ownContent) then tableNotice v else v

/-- Where own entries and announced conditions alone move, the notice that their change hands settles the part; without a change
there is nothing to settle. -/
theorem noticed_sound {u v : State} (settled : Settled u) (announced : Announced v)
    (frame : v = { u with condition := v.condition, signalling := { u.signalling with own := v.signalling.own } })
    (command : ∀ x, (v.condition.get x).command = (u.condition.get x).command) : RestorationSound (noticed u v) := by
  unfold noticed
  split
  next due => exact tableNotice_sound announced (Bool.and_eq_true _ _ ▸ due).1
  next idle =>
    refine (restorationSound_iff v).2 ⟨announced, settled.congr (.of_own ?_ ?_ ?_ fun joined x => ?_) command ?_ ?_⟩
    · rw [frame]
    · rw [frame]
    · rw [frame]
    · have joined' : v.joined = true := by
        rw [State.joined, frame]
        exact joined
      have same : v.ownContent = u.ownContent := by simpa [joined'] using idle
      unfold State.ownContent at same
      cases x
      · exact congrArg Prod.fst same
      · exact congrArg Prod.snd same
    · rw [frame]
    · rw [frame]
      exact fun _ => ⟨rfl, rfl⟩

theorem announce_eq_noticed (s : State) : announce s = noticed s (formAnnounced s) := rfl

/-- A change of the detected conditions or commands, announced (R63, R98). -/
theorem announce_sound (h : Consistent s) (settled : Settled s) : RestorationSound (announce s) :=
  noticed_sound settled h.formAnnounced rfl fun x => by cases x <;> rfl

/-- It is announced whatever the Resolver's results are. -/
theorem announce_announced (h : Consistent s) : Announced (announce s) := by
  rw [announce_eq_noticed]
  unfold noticed
  split
  next due => exact ((restorationSound_iff _).1 (tableNotice_sound h.formAnnounced (Bool.and_eq_true _ _ ▸ due).1)).1
  next => exact h.formAnnounced

end

end Sys2Proof.Machine

/-! PROOFS. Work that keeps the invariant of restoration and the own editions: the reports of the Span Monitors, the commands and
expiries, JOIN and LEAVE, the merge of a vector (R54 to R63, R74 to R98, R114, R119). -/

namespace Sys2Proof.Machine

/-! ### The own editions through the work of an event (R63) -/

/-- From s to t both own editions stand. -/
def EditionsStand (s t : State) : Prop :=
  ∀ x, (t.signalling.own.get x).edition = (s.signalling.own.get x).edition

section
variable {s t u : State}

theorem EditionsStand.refl (s : State) : EditionsStand s s := fun _ => rfl

theorem EditionsStand.trans (h : EditionsStand s t) (k : EditionsStand t u) : EditionsStand s u :=
  fun x => (k x).trans (h x)

theorem EditionsStand.of_own (h : t.signalling.own = s.signalling.own) : EditionsStand s t := fun x => by rw [h]

theorem formAnnounced_editionsStand (s : State) : EditionsStand s (formAnnounced s) := fun x => by cases x <;> rfl

theorem dropManual_editionsStand (s : State) : EditionsStand s (dropManual s) := by
  unfold dropManual
  split
  · exact formAnnounced_editionsStand _
  · exact .refl s

theorem writeAction_editionsStand (s : State) (x : Side) : EditionsStand s (writeAction s x) :=
  fun y => by cases x <;> cases y <;> rfl

theorem engineNotice_editionsStand (x : Side) (old : Bool) (s : State) : EditionsStand s (engineNotice x old s) :=
  writeAction_editionsStand (s.updateEngine x _) x

theorem noticePass_editionsStand (s : State) : EditionsStand s (noticePass s) :=
  ((dropManual_editionsStand s).trans (engineNotice_editionsStand .east _ (recompute (dropManual s)))).trans
    (engineNotice_editionsStand .west _ _)

theorem tableNotice_editionsStand (s : State) : EditionsStand s (tableNotice s) := by
  unfold tableNotice
  dsimp only
  split
  · exact noticePass_editionsStand s
  · exact (noticePass_editionsStand s).trans (noticePass_editionsStand _)

theorem noticed_editionsStand (h : EditionsStand s t) : EditionsStand s (noticed s t) := by
  unfold noticed
  split
  · exact h.trans (tableNotice_editionsStand t)
  · exact h

theorem announce_editionsStand (s : State) : EditionsStand s (announce s) :=
  noticed_editionsStand (formAnnounced_editionsStand s)

end

/-! ### Work that keeps the invariant and the own editions -/

/-- From s to t the invariant is kept, and no own edition moves. -/
structure RestorationKept (s t : State) : Prop where
  sound : RestorationSound s → RestorationSound t
  editions : EditionsStand s t

/-- Work on what restoration does not rest on. -/
def Aside (s t : State) : Prop :=
  t = { t with
    identity := s.identity, ringMap := s.ringMap, park := s.park, condition := s.condition, resolver := s.resolver
    engine := s.engine
    signalling := { t.signalling with rct := s.signalling.rct, own := s.signalling.own } }

section
variable {s t u : State}

theorem RestorationKept.refl (s : State) : RestorationKept s s := ⟨id, .refl s⟩

theorem RestorationKept.trans (h : RestorationKept s t) (k : RestorationKept t u) : RestorationKept s u :=
  ⟨k.sound ∘ h.sound, h.editions.trans k.editions⟩

theorem RestorationKept.guarded {p : Prop} [Decidable p] (h : RestorationKept s t) :
    RestorationKept s (if p then t else s) := by
  split
  · exact h
  · exact .refl s

theorem Aside.alike (h : Aside s t) : Alike s t :=
  .of_frame (by rw [h]) fun x => by rw [h]

theorem Aside.kept (h : Aside s t) : RestorationKept s t :=
  ⟨fun sound => sound.congr h.alike (by rw [h]), .of_own (by rw [h])⟩

/-- A change of one side's conditions keeps to the invariant where its WTR timer runs in HOLD and it sets no command while
STANDALONE. -/
theorem Consistent.updateCondition (h : Consistent s) (x : Side) {f : ConditionSide → ConditionSide}
    (wtr : (f (s.condition.get x)).wtr.isSome ↔ (f (s.condition.get x)).detected = .hold)
    (command : s.joined = false → (f (s.condition.get x)).command = .none) : Consistent (s.updateCondition x f) where
  identity := ⟨h.identity.standalone, h.identity.complete, h.identity.position⟩
  rct := ⟨h.rct.unlearned, h.rct.remote, h.rct.standalone, h.rct.inert⟩
  wtr := Sides.forall_set (P := fun c : ConditionSide => c.wtr.isSome ↔ c.detected = .hold) h.wtr x wtr
  commands := fun alone =>
    have ⟨idle, park⟩ := h.commands alone
    ⟨Sides.forall_set (P := fun c : ConditionSide => c.command = .none) idle x (command alone), park⟩
  ownAction := h.ownAction
  follows := h.follows
  standalone := h.standalone

/-- Commands that no MANUAL joins leave nothing to drop (R96). -/
theorem Settled.updateCondition (h : Settled s) (x : Side) {f : ConditionSide → ConditionSide}
    (command : s.learnedTrouble = true → (f (s.condition.get x)).command ≠ .manual) : Settled (s.updateCondition x f) where
  manual := fun trouble =>
    Sides.forall_set (P := fun c : ConditionSide => c.command ≠ .manual) (h.manual trouble) x (command trouble)
  resolver := h.resolver
  answered := h.answered

/-- A change of one side's conditions, announced. -/
theorem announce_update_kept (s : State) (x : Side) (f : ConditionSide → ConditionSide)
    (wtr : ((s.condition.get x).wtr.isSome ↔ (s.condition.get x).detected = .hold) →
      ((f (s.condition.get x)).wtr.isSome ↔ (f (s.condition.get x)).detected = .hold))
    (alone : s.joined = false → (s.condition.get x).command = .none → (f (s.condition.get x)).command = .none)
    (manual : s.learnedTrouble = true → (s.condition.get x).command ≠ .manual → (f (s.condition.get x)).command ≠ .manual) :
    RestorationKept s (announce (s.updateCondition x f)) where
  sound := fun h => by
    obtain ⟨announced, settled⟩ := (restorationSound_iff s).1 h
    exact announce_sound
      (announced.updateCondition x (wtr (announced.wtr x)) fun k => alone k ((announced.commands k).1 x))
      (settled.updateCondition x fun k => manual k (settled.manual k x))
  editions := announce_editionsStand (s.updateCondition x f)

/-! ### Reports of the Span Monitors (R86 to R90) -/

/-- A WTR timer runs in HOLD alone through a report (R87 to R90). -/
theorem ConditionSide.report_wtr {c : ConditionSide} (h : c.wtr.isSome ↔ c.detected = .hold) {timer : Timer}
    (started : timer.isSome) (quality : Quality) (r : Report) :
    (c.report quality timer r).wtr.isSome ↔ (c.report quality timer r).detected = .hold := by
  have become (d : Detected) (k : d ≠ .hold) : (c.become d).wtr.isSome ↔ (c.become d).detected = .hold := by
    simp [ConditionSide.become, k]
  have held : (c.enterHold timer).wtr.isSome ↔ (c.enterHold timer).detected = .hold := by
    simp [ConditionSide.enterHold, started]
  unfold ConditionSide.report
  split
  · split
    · exact h
    · exact become _ nofun
  · split
    · split
      · exact become _ nofun
      · exact held
      · exact h
    · exact h
  · split
    · exact become _ nofun
    · exact h
  · split
    · exact held
    · exact h
  · exact h

@[simp] theorem ConditionSide.report_command (c : ConditionSide) (quality : Quality) (timer : Timer) (r : Report) :
    (c.report quality timer r).command = c.command := by
  rw [ConditionSide.report_eq]

theorem takeReport_kept (x : Side) (s : State) (r : Report) : RestorationKept s (takeReport x s r) :=
  announce_update_kept s x _ (fun h => ConditionSide.report_wtr h rfl _ r) (fun _ h => by simpa using h)
    fun _ h => by simpa using h

theorem takeReport_announced (x : Side) (r : Report) (h : Announced s) : Announced (takeReport x s r) :=
  announce_announced (h.updateCondition x (ConditionSide.report_wtr (h.wtr x) rfl _ r) fun alone => by
    simpa using (h.commands alone).1 x)

/-- Work that ends in reports of the Span Monitors and is otherwise aside of restoration. -/
inductive ReportWork : State → State → Prop
  | aside {s t : State} : Aside s t → ReportWork s t
  | report (x : Side) (r : Report) (s : State) : ReportWork s (takeReport x s r)
  | trans {s t u : State} : ReportWork s t → ReportWork t u → ReportWork s u

theorem ReportWork.kept (h : ReportWork s t) : RestorationKept s t := by
  induction h with
  | aside h => exact h.kept
  | report x r s => exact takeReport_kept x s r
  | trans _ _ first second => exact first.trans second

theorem ReportWork.announced (h : ReportWork s t) (k : Announced s) : Announced t := by
  induction h with
  | aside h => exact k.congr h.alike
  | report x r s => exact takeReport_announced x r k
  | trans _ _ first second => exact second (first k)

theorem ReportWork.refl (s : State) : ReportWork s s := .aside rfl

theorem ReportWork.after_aside (h : ReportWork t u) (k : Aside s t) : ReportWork s u := .trans (.aside k) h

theorem takeReports_reportWork (x : Side) (rs : List Report) (s : State) : ReportWork s (rs.foldl (takeReport x) s) := by
  induction rs generalizing s with
  | nil => exact .refl s
  | cons r rs ih => exact (ReportWork.report x r s).trans (ih _)

/-- The end of a Span Monitor event, after work aside of restoration. -/
theorem closeMonitor_reportWork (x : Side) (changes : List Report) (h : Aside s t) :
    ReportWork s (closeMonitor x changes t) := by
  refine ReportWork.after_aside ?_ h
  exact (takeReports_reportWork x _ _).after_aside rfl

theorem monitorEntersAligned_reportWork (x : Side) (h : Aside s t) : ReportWork s (monitorEntersAligned x t) := by
  refine ReportWork.after_aside ?_ h
  exact closeMonitor_reportWork x _ rfl

theorem presyncWord_reportWork (x : Side) (word : Word) (s : State) :
    ReportWork s (if goodWord word then enterAligned x s else s.updateReceiver x fun r => { r with align := .search }) := by
  split
  · exact monitorEntersAligned_reportWork x rfl
  · exact .aside rfl

theorem alignedWord_reportWork (x : Side) (word : Word) (s : State) : ReportWork s (alignedWord x word s) := by
  unfold alignedWord
  split
  · exact .aside rfl
  · split
    · exact .aside rfl
    · exact closeMonitor_reportWork x [] rfl

theorem receiverLoses_aside (x : Side) (s : State) : Aside s (receiverLoses x s) := by
  unfold receiverLoses
  split <;> rfl

theorem losRises_reportWork (x : Side) (s : State) : ReportWork s (losRises x s) := by
  have lost : ReportWork (s.setLosPin (s.losPin.set x true)) (losRises x s) := by
    refine ReportWork.after_aside ?_ (receiverLoses_aside x _)
    exact closeMonitor_reportWork x [] rfl
  exact lost.after_aside rfl

theorem losFalls_reportWork (x : Side) (s : State) : ReportWork s (losFalls x s) := closeMonitor_reportWork x [] rfl

theorem monitorArrival_reportWork (x : Side) (outcome : VectorOutcome) (parity : Option Nat) (s : State) :
    ReportWork s (monitorArrival x outcome parity s) := by
  unfold monitorArrival
  dsimp only
  split <;> exact closeMonitor_reportWork x _ rfl

theorem holdOffExpires_reportWork (x : Side) (s : State) : ReportWork s (holdOffExpires x s) :=
  (ReportWork.report x _ _).after_aside rfl

theorem settleExpires_reportWork (x : Side) (s : State) : ReportWork s (settleExpires x s) := closeMonitor_reportWork x _ rfl

theorem joinHoldOff_reportWork (x : Side) (s : State) : ReportWork s (joinHoldOff x s) := by
  rw [joinHoldOff_eq]
  exact (takeReports_reportWork x _ _).after_aside rfl

end

/-! ### Commands, waits and confirm timers (R90 to R96, R114, R119) -/

section
variable {s : State}

theorem setCommand_kept (x : Side) {k : SideCommand} (joined : s.joined = true)
    (manual : k = .manual → s.learnedTrouble = false) : RestorationKept s (setCommand x k s) :=
  announce_update_kept s x _ id (fun alone => absurd (joined.symm.trans alone) nofun) fun trouble _ sets =>
    absurd (trouble.symm.trans (manual sets)) nofun

theorem setParkCommand_kept (v : Bool) (joined : s.joined = true) : RestorationKept s (setParkCommand v s) where
  sound := fun h => by
    obtain ⟨announced, settled⟩ := (restorationSound_iff s).1 h
    have consistent : Consistent (s.setPark v) :=
      ⟨⟨announced.identity.standalone, announced.identity.complete, announced.identity.position⟩,
        ⟨announced.rct.unlearned, announced.rct.remote, announced.rct.standalone, announced.rct.inert⟩, announced.wtr,
        fun alone => absurd (joined.symm.trans alone) nofun, announced.ownAction, announced.follows, announced.standalone⟩
    exact announce_sound consistent ⟨settled.manual, settled.resolver, settled.answered⟩
  editions := announce_editionsStand (s.setPark v)

theorem clearSide_kept (x : Side) (s : State) : RestorationKept s (clearSide x s) := by
  refine announce_update_kept s x _ (fun h => ?_) (fun _ _ => ?_) fun _ _ => ?_
  all_goals
    unfold ConditionSide.clearCommand
    dsimp only
    split
  · simp [ConditionSide.become]
  · exact h
  · rfl
  · rfl
  · nofun
  · nofun

theorem wtrExpires_kept (x : Side) (s : State) : RestorationKept s (wtrExpires x s) :=
  announce_update_kept s x _ (fun _ => by simp [ConditionSide.become]) (fun _ => id) fun _ => id

theorem confirmExpires_eq (x : Side) (s : State) :
    confirmExpires x s = noticed (s.updateEngine x Engine.expire) (writeAction (s.updateEngine x Engine.expire) x) := rfl

/-- An expiry leaves the engine on its target and answered, and its action in the own entry. -/
theorem expired_settled (x : Side) (h : Settled s) : Settled (s.updateEngine x Engine.expire) where
  manual := h.manual
  resolver := h.resolver
  answered := fun y => by
    show ((s.engine.set x (s.engine.get x).expire).get y).Answered (s.partnerAction y)
    rw [Sides.get_set]
    split
    next same => rw [same]; exact (h.answered x).expire
    next => exact h.answered y

theorem Engine.expire_idle {e : Engine} (h : e.phase = .idle) : e.expire = e := by
  unfold Engine.expire
  rw [h]

theorem expired_announced (x : Side) (h : Announced s) :
    Announced (writeAction (s.updateEngine x Engine.expire) x) where
  identity := ⟨h.identity.standalone, h.identity.complete, h.identity.position⟩
  rct := ⟨h.rct.unlearned, h.rct.remote, h.rct.standalone, h.rct.inert⟩
  wtr := h.wtr
  commands := h.commands
  ownAction := fun y => by
    show ((s.signalling.own.set x _).get y).action = ((s.engine.set x _).get y).phase.action
    rw [Sides.get_set, Sides.get_set]
    split
    · exact congrArg (Phase.action ∘ Engine.phase) (Sides.get_update_self s.engine x Engine.expire)
    · exact h.ownAction y
  follows := fun y => by
    show ((s.engine.set x (s.engine.get x).expire).get y).Follows _
    rw [Sides.get_set]
    split
    next same => rw [same]; exact (h.follows x).expire
    next => exact h.follows y
  standalone := fun alone y => by
    show ((s.engine.set x (s.engine.get x).expire).get y).phase = .idle
    rw [Engine.expire_idle (h.standalone alone x), Sides.set_get]
    exact h.standalone alone y
  announced := h.announced
  ownCondition := fun y => by
    refine Eq.trans ?_ (h.ownCondition y)
    show ((s.signalling.own.set x _).get y).condition = _
    rw [Sides.get_set]
    split
    next same => subst same; rfl
    next => rfl

theorem confirmExpires_kept (x : Side) (s : State) : RestorationKept s (confirmExpires x s) where
  sound := fun h => by
    obtain ⟨announced, settled⟩ := (restorationSound_iff s).1 h
    rw [confirmExpires_eq]
    exact noticed_sound (expired_settled x settled) (expired_announced x announced) rfl fun _ => rfl
  editions := noticed_editionsStand (writeAction_editionsStand (s.updateEngine x Engine.expire) x)

/-! ### JOIN, LEAVE and a STANDALONE part (R54, R56, R57, R61) -/

/-- An IDLE engine that has followed its target waits for nothing. -/
theorem Engine.Follows.eq_reset {e : Engine} {target : Bool} (h : e.Follows target) (idle : e.phase = .idle) :
    e = Engine.reset := by
  obtain ⟨-, confirm, silent⟩ := h
  obtain ⟨phase, timer, flag⟩ := e
  obtain rfl : phase = .idle := idle
  obtain rfl : flag = false := silent rfl
  obtain rfl : timer = none := by simpa using confirm
  rfl

/-- What the invariant says of a STANDALONE part: no position, no entry learned, the Resolver and the engines at rest. -/
theorem restorationSound_standalone_iff (alone : s.joined = false) :
    RestorationSound s ↔ s.identity.position = none ∧ s.signalling.rct = Vector.replicate 64 Entry.unlearned ∧
      (∀ x, ConditionSound s x) ∧ s.resolver = Resolver.reset ∧ ∀ x, s.engine.get x = Engine.reset := by
  constructor
  · intro h
    have rct : s.signalling.rct = Vector.replicate 64 Entry.unlearned := by
      ext i lt : 1
      rw [Vector.getElem_replicate]
      exact h.rct.standalone alone ⟨i, lt⟩
    refine ⟨h.identity.standalone alone, rct, h.condition, h.resolver.trans (resolved_standalone alone rct), fun x => ?_⟩
    obtain ⟨follows, idle, -⟩ := (engineSound_iff s x).1 (h.engine x)
    exact follows.eq_reset (idle alone)
  · rintro ⟨position, rct, condition, resolver, engine⟩
    have unlearned (i : Fin 64) : s.signalling.rct[i] = Entry.unlearned := by
      rw [rct]
      exact Vector.getElem_replicate _
    refine ⟨⟨fun _ => position, ?_, ?_⟩, ⟨fun i _ => unlearned i, fun i => ?_, fun _ => unlearned, fun i _ => unlearned i⟩,
      condition, fun _ x => ?_, resolver.trans (resolved_standalone alone rct).symm, fun x => ?_⟩
    · exact fun joined => absurd (joined.symm.trans alone) nofun
    · exact fun joined => absurd (joined.symm.trans alone) nofun
    · rw [unlearned]
      nofun
    · rw [((condition x).commands alone).1]
      nofun
    · have target : s.resolver.target.get x = false := by
        rw [resolver]
        cases x <;> rfl
      constructor <;> simp [engine, target, Engine.reset]

theorem joining_announced (h : RestorationSound s) (accepted : JoinAccepted s) : Announced (joining s) := by
  obtain ⟨announced, -⟩ := (restorationSound_iff s).1 h
  obtain ⟨p, fixed, -, -⟩ := joinPosition_spec accepted
  have complete := (Bool.and_eq_true _ _ ▸ (Bool.and_eq_true _ _ ▸ (joinAccepted_iff s).2 accepted).1).2
  have named : s.ringMap.positionOf s.identity.nodeId.toNat = some p.val := by
    obtain ⟨r, own, at'⟩ := Option.bind_eq_some_iff.1 (fixed : s.joinPosition = some p)
    rw [dif_pos ((positionOf_some own).1.trans_le accepted.size.2), Option.some.injEq] at at'
    rw [own, ← at']
  have unlearned (i : Fin 64) : (joining s).signalling.rct[i] = Entry.unlearned := Vector.getElem_replicate _
  exact
    { identity := ⟨nofun, fun _ => complete, fun _ => ⟨p, fixed, named⟩⟩
      rct := ⟨fun i _ => unlearned i, fun i => by rw [unlearned]; nofun, fun _ => unlearned, fun i _ => unlearned i⟩
      wtr := announced.wtr, commands := nofun, ownAction := announced.ownAction, follows := announced.follows
      standalone := nofun, announced := announced.announced, ownCondition := announced.ownCondition }

theorem joinEffect_kept (accepted : JoinAccepted s) : RestorationKept s (joinEffect s) where
  sound := fun h => by
    have holds := (joinHoldOff_reportWork .east (joining s)).trans (joinHoldOff_reportWork .west _)
    have joined : (joinHoldOff .west (joinHoldOff .east (joining s))).joined = true := by
      rw [State.joined, joinHoldOff_frame, joinHoldOff_frame]
      rfl
    rw [joinEffect_eq]
    exact tableNotice_sound (holds.announced (joining_announced h accepted)) joined
  editions := by
    have joined : EditionsStand s (joining s) := .of_own rfl
    rw [joinEffect_eq]
    exact ((joined.trans (joinHoldOff_reportWork .east _).kept.editions).trans
      (joinHoldOff_reportWork .west _).kept.editions).trans (tableNotice_editionsStand _)

theorem leaveEffect_kept (accepted : leaveAccepted s = true) : RestorationKept s (leaveEffect s) where
  sound := fun h => by
    have idle := ((leaveAccepted_iff s).1 accepted).2
    have left := leaveEffect_eq s
    obtain ⟨announced, -⟩ := (restorationSound_iff s).1 h
    rw [left]
    refine (restorationSound_standalone_iff rfl).2 ⟨rfl, rfl, fun x => ?_, rfl, fun x => ?_⟩
    · have highest (y : Side) : (s.condition.get y).uncommanded.highest false = (s.condition.get y).detected.condition :=
        ConditionSide.highest_uncommanded rfl
      cases x with
      | east => exact ⟨announced.wtr .east, (highest .east).symm, fun _ => ⟨rfl, rfl⟩, rfl, announced.ownAction .east⟩
      | west => exact ⟨announced.wtr .west, (highest .west).symm, fun _ => ⟨rfl, rfl⟩, rfl, announced.ownAction .west⟩
    · exact (announced.follows x).eq_reset (idle x)
  editions := fun x => by
    rw [leaveEffect_eq]
    cases x <;> rfl

end

/-! ### The merge of a vector (R74 to R79) -/

section
variable {start : Sides OwnEntry} {s : State} {x : Side} {v : SigVector} {p : Nat}

@[simp] theorem State.bump_signalling (s : State) (c : Counter) (n : Nat) : (s.bump c n).signalling = s.signalling := rfl

/-- A merge touches the table, the own entries and one counter. -/
theorem mergeEntries_elsewhere :
    let t := mergeEntries start s x v p
    t = { s with
      signalling := { s.signalling with rct := t.signalling.rct, own := t.signalling.own }, counters := t.counters } := by
  obtain ⟨rct, own, k, eq⟩ := mergeEntries_frame start s x v p
  dsimp only
  rw [eq]
  rfl

theorem mergeEntries_rct_of_none {i : Fin 64} (h : receivedEntry s.ringMap.n v i.val = none) :
    (mergeEntries start s x v p).signalling.rct[i] = s.signalling.rct[i] := by
  simp [mergeEntries, h]

theorem mergeEntries_rct_of_some {i : Fin 64} {r : Received} (h : receivedEntry s.ringMap.n v i.val = some r) :
    (mergeEntries start s x v p).signalling.rct[i] =
      if i.val / 2 = p then s.signalling.rct[i] else adopt x s.signalling.rct[i] r := by
  simp [mergeEntries, h]

theorem mergeEntries_own_of_none {y : Side} (h : receivedEntry s.ringMap.n v (2 * p + y.offset) = none) :
    (mergeEntries start s x v p).signalling.own.get y = s.signalling.own.get y := by
  cases y <;> simp [mergeEntries, h]

theorem mergeEntries_own_of_some {y : Side} {r : Received}
    (h : receivedEntry s.ringMap.n v (2 * p + y.offset) = some r) :
    (mergeEntries start s x v p).signalling.own.get y =
      catchUp (start.get y).content (s.signalling.own.get y) r := by
  cases y <;> simp [mergeEntries, h]

/-- An entry of a vector that the merge does not pass over is below N (R76). -/
theorem receivedEntry_below {n i : Nat} {r : Received} (h : receivedEntry n v i = some r) : i / 2 < n := by
  unfold receivedEntry at h
  dsimp only at h
  split at h
  next known => exact of_decide_eq_true (Bool.and_eq_true _ _ ▸ known).2
  next => contradiction

/-- A merge changes no own content (R78). -/
theorem mergeEntries_content (y : Side) :
    ((mergeEntries start s x v p).signalling.own.get y).content = (s.signalling.own.get y).content := by
  cases h : receivedEntry s.ringMap.n v (2 * p + y.offset) with
  | none => rw [mergeEntries_own_of_none h]
  | some r => rw [mergeEntries_own_of_some h, catchUp_content]

/-- An entry after a merge is the held one, or one received for a position below N (R77). -/
theorem mergeEntries_rct_cases (i : Fin 64) :
    (mergeEntries start s x v p).signalling.rct[i] = s.signalling.rct[i] ∨
      i.val / 2 < s.ringMap.n ∧ ∃ r : Received,
        (mergeEntries start s x v p).signalling.rct[i] = ⟨r.condition, r.action, r.edition, some (.line x)⟩ := by
  cases h : receivedEntry s.ringMap.n v i.val with
  | none => exact .inl (mergeEntries_rct_of_none h)
  | some r =>
    rw [mergeEntries_rct_of_some h]
    split
    · exact .inl rfl
    · exact (adopt_cases x s.signalling.rct[i] r).imp id fun adopted => ⟨receivedEntry_below h, r, adopted⟩

/-- The table after a merge at a JOINED part (R60, R61). -/
theorem mergeEntries_rctSound (h : RctSound s) (joined : s.joined = true) :
    RctSound (mergeEntries start s x v p) := by
  have entries := mergeEntries_rct_cases (start := start) (s := s) (x := x) (v := v) (p := p)
  have frame := mergeEntries_elsewhere (start := start) (s := s) (x := x) (v := v) (p := p)
  dsimp only at frame
  generalize mergeEntries start s x v p = t at *
  refine ⟨fun i none => ?_, fun i => ?_, fun alone => ?_, fun i above => ?_⟩
  · rcases entries i with held | ⟨-, r, adopted⟩
    · rw [held] at none ⊢
      exact h.unlearned i none
    · rw [adopted] at none
      contradiction
  · rcases entries i with held | ⟨-, r, adopted⟩
    · rw [held]
      exact h.remote i
    · rw [adopted]
      nofun
  · rw [State.joined, frame] at alone
    exact absurd (joined.symm.trans alone) nofun
  · rw [frame] at above
    rcases entries i with held | ⟨below, -⟩
    · rw [held]
      exact h.inert i above
    · exact absurd above (Nat.not_le.2 below)

theorem mergeEntries_announced (h : Announced s) (joined : s.joined = true) : Announced (mergeEntries start s x v p) := by
  have rct := mergeEntries_rctSound (start := start) (x := x) (v := v) (p := p) h.rct joined
  have content := mergeEntries_content (start := start) (s := s) (x := x) (v := v) (p := p)
  have frame := mergeEntries_elsewhere (start := start) (s := s) (x := x) (v := v) (p := p)
  dsimp only at frame
  generalize mergeEntries start s x v p = t at *
  have inert := rct.inert
  have standalone := rct.standalone
  rw [State.joined, frame] at standalone
  rw [frame] at inert
  have table : Announced (s.setSignalling { s.signalling with rct := t.signalling.rct }) :=
    { identity := ⟨h.identity.standalone, h.identity.complete, h.identity.position⟩
      rct := ⟨rct.unlearned, rct.remote, standalone, inert⟩
      wtr := h.wtr, commands := h.commands, ownAction := h.ownAction, follows := h.follows, standalone := h.standalone
      announced := h.announced, ownCondition := h.ownCondition }
  exact table.congr (.of_frame (by rw [frame]; rfl) content)

/-- Where no entry's learned field, condition or action differs, the table shows the same (R79). -/
theorem tableShown_of_unchanged {t : State} (identity : t.identity = s.identity) (ringMap : t.ringMap = s.ringMap)
    (content : ∀ y, (t.signalling.own.get y).content = (s.signalling.own.get y).content)
    (same : tableChanged s t = false) : TableShown s t := by
  have entry (i : Nat) : (elementAt t.signalling.rct i Entry.unlearned).shown =
      (elementAt s.signalling.rct i Entry.unlearned).shown := by
    rcases Nat.lt_or_ge i 64 with below | above
    · unfold tableChanged at same
      have at' := congrArg (·[i]?) (by simpa using same :
        s.signalling.rct.toList.map Entry.shown = t.signalling.rct.toList.map Entry.shown)
      simp only [List.getElem?_map, Vector.getElem?_toList, Vector.getElem?_eq_getElem below, Option.map_some,
        Option.some.injEq] at at'
      rw [elementAt_of_lt _ below, elementAt_of_lt _ below]
      exact at'.symm
    · rw [elementAt_of_le _ above, elementAt_of_le _ above]
  have shown (q : Nat) (y : Side) : (t.entry q y).shown = (s.entry q y).shown := by
    unfold State.entry State.joined
    rw [identity]
    split
    · exact congrArg (Prod.mk true) (content y)
    · exact entry _
  exact ⟨identity, ringMap, fun q y => ⟨congrArg Prod.fst (shown q y), congrArg (·.2.1) (shown q y)⟩,
    fun q y => ⟨congrArg Prod.fst (shown q y), congrArg (·.2.2) (shown q y)⟩⟩

/-- The merge of a vector at a JOINED part, with the notice that it hands where the table shows something else (R79). -/
theorem mergeVector_sound (start : Sides OwnEntry) (x : Side) (v : SigVector) (sound : RestorationSound s)
    (joined : s.joined = true) : RestorationSound (mergeVector start s x v) := by
  obtain ⟨announced, settled⟩ := (restorationSound_iff s).1 sound
  unfold mergeVector
  split
  next p _ =>
    have merged := mergeEntries_announced (start := start) (x := x) (v := v) (p := p.val) announced joined
    have content := mergeEntries_content (start := start) (s := s) (x := x) (v := v) (p := p.val)
    have frame := mergeEntries_elsewhere (start := start) (s := s) (x := x) (v := v) (p := p.val)
    dsimp only at frame ⊢
    generalize mergeEntries start s x v p.val = t at *
    split
    · refine tableNotice_sound merged ?_
      rw [State.joined, frame]
      exact joined
    next same =>
      have shown := tableShown_of_unchanged (by rw [frame]) (by rw [frame]) content (eq_false_of_ne_true same)
      refine (restorationSound_iff t).2 ⟨merged, settled.congr shown (fun _ => ?_) ?_ fun _ => ?_⟩
      · rw [frame]
      · rw [frame]
      · rw [frame]
        exact ⟨rfl, rfl⟩
  next => exact sound

theorem arrivalMerge_sound (start : Sides OwnEntry) (x : Side) (v : SigVector) {qualifies : Bool}
    (joined : qualifies = true → s.joined = true) (sound : RestorationSound s) :
    RestorationSound (arrivalMerge start x v qualifies s) := by
  unfold arrivalMerge
  split
  next merges => exact mergeVector_sound start x v sound (joined merges)
  next => exact sound

end

/-! ### Frames and cells -/

section
variable (s : State)

theorem bufferArrival_aside (x : Side) (f : LineSlots) : Aside s (bufferArrival x f s) := by
  unfold Aside
  rw [bufferArrival_frame x f s]

theorem noteVector_aside (x : Side) (v : SigVector) : Aside s (noteVector s x v) := by
  unfold Aside
  rw [noteVector_frame]

theorem Aside.trans {s t u : State} (h : Aside s t) (k : Aside t u) : Aside s u := by
  unfold Aside at *
  rw [k, h]

theorem routing_aside {s t : State} (h : RoutingFrame s t) : Aside s t := by
  unfold Aside
  rw [h]

theorem routeManagement_line_aside (x : Side) (m : Management) : Aside s (routeManagement (routeLineCell x) m s) :=
  routing_aside (routeManagement_frame m s (routeLineCell_frame x))

theorem tributaryArrival_kept (f : TributaryFrame) : RestorationKept s (tributaryArrival f s) :=
  (Aside.trans (rfl : Aside s (s.setHolder (some f.slots)))
    (routing_aside (routeManagement_frame f.management _ routeTributaryCell_frame))).kept.guarded

/-- What an arriving frame leaves in the alignment buffer and the receiver (R13 to R17). -/
def arrivalStored (x : Side) (f : LineFrame) (s : State) : State :=
  (bufferArrival x f.slots s).updateReceiver x fun r => { r with heldParity := some (laneParity f.slots) }

/-- What an arriving frame does before its vector is merged and its Span Monitor's event is taken. -/
def arrivalTaken (x : Side) (f : LineFrame) (s : State) : State :=
  noteVector (arrivalStored x f s) x f.vector

theorem arrivalStored_aside (x : Side) (f : LineFrame) : Aside s (arrivalStored x f s) := by
  have held (u : State) : Aside u (u.updateReceiver x fun r => { r with heldParity := some (laneParity f.slots) }) := rfl
  exact (bufferArrival_aside s x f.slots).trans (held _)

theorem arrivalTaken_aside (x : Side) (f : LineFrame) : Aside s (arrivalTaken x f s) :=
  (arrivalStored_aside s x f).trans (noteVector_aside _ x f.vector)

theorem mergeable_joined {s : State} {x : Side} {v : SigVector} (h : mergeable s x v = true) : s.joined = true :=
  (Bool.and_eq_true _ _ ▸ h).2

theorem frameArrival_sound (x : Side) (f : LineFrame) (order : ArrivalOrder) (sound : RestorationSound s) :
    RestorationSound (frameArrival x f order s) := by
  have aside := arrivalTaken_aside s x f
  have joined : (arrivalTaken x f s).joined = s.joined := by rw [State.joined, aside]; rfl
  have arrived (u : State) := monitorArrival_reportWork x (vectorOutcome s x f.vector) (parityResult x f s) u
  rw [frameArrival_eq]
  refine (routeManagement_line_aside _ x f.management).kept.sound ?_
  cases order with
  | mergeFirst =>
    refine (arrived _).kept.sound (arrivalMerge_sound _ x f.vector (fun merges => ?_) (aside.kept.sound sound))
    exact joined.trans (mergeable_joined merges)
  | monitorFirst =>
    refine arrivalMerge_sound _ x f.vector (fun merges => ?_) ((arrived _).kept.sound (aside.kept.sound sound))
    have mode : (monitorArrival x (vectorOutcome s x f.vector) (parityResult x f s) (arrivalTaken x f s)).joined =
        (arrivalTaken x f s).joined := by
      rw [State.joined, (monitorArrival_ringWork x _ _ _).frame]
      rfl
    exact mode.trans (joined.trans (mergeable_joined merges))

end

end Sys2Proof.Machine

/-! PROOFS. Every step keeps the invariant of the conditions, table, Resolver and Loop Engines (O5), and the own editions count
the changes of own content (O50). -/

namespace Sys2Proof.Machine

/-! ### The end of an event (R63) -/

/-- An own edition advances by one exactly where the content differs (R63). -/
def EditionsCount (s t : State) : Prop :=
  ∀ x, (t.signalling.own.get x).edition =
    if (t.signalling.own.get x).content = (s.signalling.own.get x).content then (s.signalling.own.get x).edition
    else (s.signalling.own.get x).edition + 1

/-- From s to t the invariant is kept, and the own editions count the changes of own content. -/
structure RestorationTaken (s t : State) : Prop where
  sound : RestorationSound s → RestorationSound t
  counted : EditionsCount s t

section
variable {f : State → State} {s : State}

theorem RestorationTaken.refl (s : State) : RestorationTaken s s := ⟨id, fun _ => (if_pos rfl).symm⟩

theorem RestorationTaken.guarded {t : State} {p : Prop} [Decidable p] (h : RestorationTaken s t) :
    RestorationTaken s (if p then t else s) := by
  split
  · exact h
  · exact .refl s

/-- The end of an event moves, of all that restoration rests on, the own editions alone. -/
theorem event_alike (f : State → State) (s : State) : Alike (f s) (event f s) :=
  .of_frame (by rw [event_frame]) fun x => by rw [event_own, OwnEntry.advance_content]

theorem event_sound (h : RestorationSound (f s)) : RestorationSound (event f s) :=
  h.congr (event_alike f s) (by rw [event_frame])

/-- Own entries advanced at the end of an event whose work moved no edition count the changes of content. -/
theorem EditionsStand.counted {u t : State} (h : EditionsStand s u)
    (own : ∀ x, t.signalling.own.get x = (s.signalling.own.get x).advance (u.signalling.own.get x)) :
    EditionsCount s t := by
  intro x
  rw [own, OwnEntry.advance_content, OwnEntry.advance_edition, h x]

theorem RestorationKept.event (h : RestorationKept s (f s)) : RestorationTaken s (event f s) :=
  ⟨fun sound => event_sound (h.sound sound), h.editions.counted (event_own f s)⟩

theorem RestorationKept.readClearEvent (h : RestorationKept s (f s)) : RestorationTaken s (readClearEvent f s) where
  sound := fun sound => (h.sound sound).congr
    (.of_frame rfl fun x => by
      refine Eq.trans ?_ (OwnEntry.advance_content (s.signalling.own.get x) _)
      cases x <;> rfl) rfl
  counted := h.editions.counted fun x => by cases x <;> rfl

theorem Aside.event (h : Aside s (f s)) : RestorationTaken s (event f s) := h.kept.event

theorem ReportWork.event (h : ReportWork s (f s)) : RestorationTaken s (event f s) := h.kept.event

end

/-! ### The local frame start (R1, R2, R19) -/

section
variable (s : State)

/-- The issue counts the running timers, and none of them stops (R2). -/
theorem issueFrameStart_kept : RestorationKept s (issueFrameStart s) where
  sound := fun h => h.congr
    { identity := rfl, ringMap := rfl, rct := rfl, park := rfl
      condition := fun x => by cases x <;> rfl
      wtr := fun x => by cases x <;> exact countDown_isSome _
      content := fun _ => rfl, target := rfl
      engine := fun x => by cases x <;> rfl
      confirm := fun x => by cases x <;> exact countDown_isSome _ } rfl
  editions := .of_own rfl

theorem removeCell_aside (q : Port) : Aside s (removeCell q s) := by
  unfold Aside
  rw [removeCell_frame]

theorem readBuffer_aside (x : Side) : Aside s (readBuffer x s) := by
  unfold Aside
  rw [readBuffer_frame x s]

theorem buildFrames_aside : Aside s (buildFrames s) := by
  have squelched : Aside s (s.setSquelch s.squelchTests) := rfl
  have read := (squelched.trans (readBuffer_aside _ .east)).trans (readBuffer_aside _ .west)
  have begun (f : SentFrames) (v : FrameInstant) : Aside s (beginFrames f
      (((readBuffer .west (readBuffer .east (s.setSquelch s.squelchTests))).setHolder none).setInstant v)) :=
    read.trans rfl
  exact (((begun _ _).trans (removeCell_aside _ .east)).trans (removeCell_aside _ .west)).trans
    (removeCell_aside _ .tributary)

theorem takeSwap_taken : RestorationTaken s (takeSwap s) := by
  rcases takeSwap_cases s with same | ⟨pc, -, -, -, eq⟩
  · rw [same]
    exact .refl s
  · rw [eq]
    exact Aside.event rfl

theorem takeHoldOffExpiry_taken (x : Side) : RestorationTaken s (takeHoldOffExpiry x s) :=
  (holdOffExpires_reportWork x s).event.guarded

theorem takeSettleMaskExpiry_taken (x : Side) : RestorationTaken s (takeSettleMaskExpiry x s) :=
  (settleExpires_reportWork x s).event.guarded

theorem takeWtrExpiry_taken (x : Side) : RestorationTaken s (takeWtrExpiry x s) := (wtrExpires_kept x s).event.guarded

theorem takeConfirmTimerExpiry_taken (x : Side) : RestorationTaken s (takeConfirmTimerExpiry x s) :=
  (confirmExpires_kept x s).event.guarded

theorem takeOverdue_sound (sound : RestorationSound s) : RestorationSound (takeOverdue s) :=
  takeOverdue_induction s sound (fun x u => (takeHoldOffExpiry_taken u x).sound)
    (fun x u => (takeSettleMaskExpiry_taken u x).sound) (fun x u => (takeWtrExpiry_taken u x).sound)
    (fun x u => (takeConfirmTimerExpiry_taken u x).sound) fun u => (takeSwap_taken u).sound

theorem issueFrameStart_taken : RestorationTaken s (event issueFrameStart s) := (issueFrameStart_kept s).event

theorem buildFrames_taken : RestorationTaken s (event buildFrames s) := (buildFrames_aside s).event

theorem issueAndBuild_taken : RestorationTaken s (event (fun s => buildFrames (issueFrameStart s)) s) :=
  RestorationKept.event (f := fun s => buildFrames (issueFrameStart s))
    ((issueFrameStart_kept s).trans (buildFrames_aside _).kept)

theorem frameStart_sound (part : FrameStartPart) (sound : RestorationSound s) : RestorationSound (frameStart part s) := by
  unfold frameStart
  split
  · exact sound
  · exact (issueFrameStart_taken _).sound (takeOverdue_sound s sound)
  · exact (buildFrames_taken s).sound sound
  · exact (issueAndBuild_taken _).sound (takeOverdue_sound s sound)

/-- A local frame start that is at hand, or before which nothing is left, is one event. -/
theorem frameStart_taken (part : FrameStartPart) (due : FrameStartDue s) : RestorationTaken s (frameStart part s) := by
  have still : s.instant.begun = false → takeOverdue s = s := fun idle =>
    takeOverdue_nothingDue (due.resolve_left fun begun => absurd (begun.symm.trans idle) nofun)
  unfold frameStart
  split
  · exact .refl s
  next idle =>
    rw [still idle]
    exact issueFrameStart_taken s
  · exact buildFrames_taken s
  next idle =>
    rw [still idle]
    exact issueAndBuild_taken s

theorem resetFrameStart_aside (part : FrameStartPart) : Aside s (resetFrameStart part s) := by
  have begun (f : SentFrames) (v : FrameInstant) : Aside s ((beginFrames f s).setInstant v) := rfl
  cases part with
  | issue => exact rfl
  | frames => exact begun _ _

end

/-- Work aside of restoration, with no event of it. -/
theorem Aside.taken {s t : State} (h : Aside s t) : RestorationTaken s t :=
  ⟨h.kept.sound, fun x => by rw [h]; exact (if_pos rfl).symm⟩

/-! ### Turns of the Agent -/

/-- What a row's service makes of the state keeps the invariant and the own editions. -/
def ServesKept (serve : Port → Cell → State → State) : Prop :=
  ∀ q c s, RestorationKept s (serve q c s)

section
variable {serve : Port → Cell → State → State}

theorem respond_aside (q : Port) (c : Cell) (st : Status) (words : List Word) (s : State) :
    Aside s (respond q c st words s) := rfl

theorem takeRequest_aside (q : Port) (s : State) : Aside s (takeRequest q s) := rfl

theorem checked_kept (h : ServesKept serve) : ServesKept (checked serve) := by
  intro q c s
  unfold checked
  split
  · exact h q c s
  · exact (respond_aside q c _ _ s).kept

theorem addressed_kept (h : ServesKept serve) : ServesKept (addressed serve) := by
  intro q c s
  unfold addressed
  split
  · exact (respond_aside q c _ _ s).kept
  · exact h q c s

theorem unknown_kept : ServesKept fun q c s => respond q c .unknown [] s := fun q c s => (respond_aside q c _ _ s).kept

theorem serveRead_kept : ServesKept serveRead := by
  intro q c s
  unfold serveRead
  split <;> exact (respond_aside q c _ _ s).kept

theorem servePoll_kept : ServesKept servePoll := fun q c s => (respond_aside q c _ _ s).kept

theorem clearRead_aside (table index count : Nat) (s : State) : Aside s (clearRead table index count s) := by
  unfold clearRead
  split
  · unfold Aside
    rw [clearCounters_frame]
  · split <;> rfl

theorem serveReadClear_kept : ServesKept serveReadClear := by
  intro q c s
  unfold serveReadClear
  split
  · exact (clearRead_aside _ _ _ s).kept.trans (respond_aside q c _ _ _).kept
  · exact (respond_aside q c _ _ s).kept

theorem serveCommit_kept : ServesKept serveCommit := by
  intro q c s
  unfold serveCommit
  split
  · exact Aside.kept rfl
  · split
    · exact Aside.kept rfl
    · exact (respond_aside q c _ _ s).kept

/-- While the part is JOINED the words stored are aside of restoration; while it is STANDALONE they are the node ID and the Ring
Map, on which a part at rest does not depend (R48, R51). -/
theorem storeWords_kept {s : State} {table index : Nat} {words : List Word}
    (passed : writeStatus s table index words = .done) : RestorationKept s (storeWords s table index words) := by
  have frame := storeWords_stored s table index words
  have held := storeWords_mapHeld passed
  generalize storeWords s table index words = t at *
  cases joined : s.joined with
  | true =>
    obtain ⟨identity, ringMap⟩ := held joined
    exact Aside.kept (by unfold Aside; rw [← identity, ← ringMap, frame])
  | false =>
    refine ⟨fun sound => ?_, .of_own (by rw [frame])⟩
    obtain ⟨position, rct, condition, resolver, engine⟩ := (restorationSound_standalone_iff joined).1 sound
    rw [frame]
    refine (restorationSound_standalone_iff ?_).2 ⟨position, rct,
      fun x => ⟨(condition x).wtr, (condition x).announced, (condition x).commands, (condition x).ownCondition,
        (condition x).ownAction⟩, resolver, engine⟩
    exact joined

theorem serveWrite_kept (form : Word → Word → Word) : ServesKept (serveWrite form) := by
  intro q c s
  unfold serveWrite
  dsimp only
  split
  next passed => exact (storeWords_kept passed).trans (respond_aside q c _ _ _).kept
  next => exact Aside.kept rfl
  next => exact (respond_aside q c _ _ s).kept

theorem serveCommand_kept {accepted : State → Bool} {effect : State → State}
    (h : ∀ s, accepted s = true → RestorationKept s (effect s)) : ServesKept (serveCommand accepted effect) := by
  intro q c s
  unfold serveCommand
  split
  next yes => exact (h s yes).trans (respond_aside q c _ _ _).kept
  next => exact (respond_aside q c _ _ s).kept

theorem turn_taken (kind : Request) (h : ServesKept serve) (s : State) : RestorationTaken s (turn kind serve s) := by
  unfold turn turnAs
  split
  next q c _ =>
    refine RestorationTaken.guarded (RestorationKept.event (f := fun s => serve q c (takeRequest q s)) ?_)
    exact (takeRequest_aside q s).kept.trans (h q c (takeRequest q s))
  next => exact .refl s

theorem turnReadClear_taken (s : State) :
    RestorationTaken s (turnAs readClearEvent .readClear (checked (addressed serveReadClear)) s) := by
  unfold turnAs
  split
  next q c _ =>
    refine RestorationTaken.guarded (RestorationKept.readClearEvent
      (f := fun s => checked (addressed serveReadClear) q c (takeRequest q s)) ?_)
    exact (takeRequest_aside q s).kept.trans (checked_kept (addressed_kept serveReadClear_kept) q c (takeRequest q s))
  next => exact .refl s

theorem command_taken (kind : Request) {accepted : State → Bool} {effect : State → State}
    (h : ∀ s, accepted s = true → RestorationKept s (effect s)) (s : State) :
    RestorationTaken s (turn kind (checked (serveCommand accepted effect)) s) :=
  turn_taken kind (checked_kept (serveCommand_kept h)) s

/-- FORCE is set while JOINED alone, and is no MANUAL (R93). -/
theorem force_kept (x : Side) (s : State) (yes : forceAccepted s = true) : RestorationKept s (setCommand x .force s) :=
  setCommand_kept x ((forceAccepted_iff s).1 yes).1 nofun

/-- MANUAL is set where there is no trouble alone (R93). -/
theorem manual_kept (x : Side) (s : State) (yes : manualAccepted s = true) : RestorationKept s (setCommand x .manual s) := by
  obtain ⟨joined, calm⟩ := (Bool.and_eq_true _ _).mp yes
  exact setCommand_kept x joined fun _ => (Bool.not_eq_true' _).mp calm

end

/-! ### Every command -/

theorem sendAttempt_aside (s : State) : Aside s (sendAttempt s) := by
  unfold sendAttempt
  split <;> rfl

/-- Every command but a reset, a frame's arrival and a local frame start before which something is left is one event. -/
theorem exec_taken (c : Instr) (s : State) (stays : ¬c.resets) (silent : ∀ y f o, c ≠ .alignedFrameArrival y f o)
    (due : ∀ part, c = .localFrameStart part → FrameStartDue s) : ∃ t, exec c s = .next t ∧ RestorationTaken s t := by
  cases c with
  | resetNAssert => exact absurd (.inl rfl) stays
  | resetNRelease straps => exact absurd (.inr ⟨straps, .inl rfl⟩) stays
  | restart straps => exact absurd (.inr ⟨straps, .inr rfl⟩) stays
  | alignedFrameArrival y f o => exact absurd rfl (silent y f o)
  | localFrameStart part =>
    refine ⟨_, rfl, ?_⟩
    split
    · exact frameStart_taken s part (due part rfl)
    · exact (resetFrameStart_aside s part).taken
  | commitSwap => exact ⟨_, rfl, takeSwap_taken s⟩
  | losAssert x =>
    refine ⟨_, rfl, ?_⟩
    split
    · exact .refl s
    · split
      · exact (losRises_reportWork x s).event
      · exact Aside.taken rfl
  | losRelease x =>
    refine ⟨_, rfl, ?_⟩
    split
    · exact .refl s
    · split
      · exact (losFalls_reportWork x s).event
      · exact Aside.taken rfl
  | alignmentWordFound x =>
    have moved (u : State) : Aside u (u.updateReceiver x fun r => { r with align := .presync }) := rfl
    exact ⟨_, rfl, (moved s).event.guarded⟩
  | presyncWordCheck x word => exact ⟨_, rfl, (presyncWord_reportWork x word s).event.guarded⟩
  | alignedWordCheck x word => exact ⟨_, rfl, (alignedWord_reportWork x word s).event.guarded⟩
  | holdOffExpiry x => exact ⟨_, rfl, takeHoldOffExpiry_taken s x⟩
  | settleMaskExpiry x => exact ⟨_, rfl, takeSettleMaskExpiry_taken s x⟩
  | wtrExpiry x => exact ⟨_, rfl, takeWtrExpiry_taken s x⟩
  | confirmTimerExpiry x => exact ⟨_, rfl, takeConfirmTimerExpiry_taken s x⟩
  | tributaryFrameArrival frame => exact ⟨_, rfl, (tributaryArrival_kept s frame).event.guarded⟩
  | read => exact ⟨_, rfl, turn_taken _ (checked_kept (addressed_kept serveRead_kept)) s⟩
  | write => exact ⟨_, rfl, turn_taken _ (checked_kept (addressed_kept (serveWrite_kept _))) s⟩
  | set => exact ⟨_, rfl, turn_taken _ (checked_kept (addressed_kept (serveWrite_kept _))) s⟩
  | clear => exact ⟨_, rfl, turn_taken _ (checked_kept (addressed_kept (serveWrite_kept _))) s⟩
  | readClear => exact ⟨_, rfl, turnReadClear_taken s⟩
  | commit => exact ⟨_, rfl, turn_taken _ (checked_kept serveCommit_kept) s⟩
  | poll => exact ⟨_, rfl, turn_taken _ (checked_kept servePoll_kept) s⟩
  | forceEast => exact ⟨_, rfl, command_taken _ (force_kept .east) s⟩
  | forceWest => exact ⟨_, rfl, command_taken _ (force_kept .west) s⟩
  | manualEast => exact ⟨_, rfl, command_taken _ (manual_kept .east) s⟩
  | manualWest => exact ⟨_, rfl, command_taken _ (manual_kept .west) s⟩
  | park => exact ⟨_, rfl, command_taken _ (fun _ => setParkCommand_kept true) s⟩
  | clearPark => exact ⟨_, rfl, command_taken _ (fun _ => setParkCommand_kept false) s⟩
  | clearEast => exact ⟨_, rfl, command_taken _ (fun u _ => clearSide_kept .east u) s⟩
  | clearWest => exact ⟨_, rfl, command_taken _ (fun u _ => clearSide_kept .west u) s⟩
  | join => exact ⟨_, rfl, command_taken _ (fun u yes => joinEffect_kept ((joinAccepted_iff u).1 yes)) s⟩
  | leave => exact ⟨_, rfl, command_taken _ (fun _ => leaveEffect_kept) s⟩
  | noticeSendAttempt => exact ⟨_, rfl, (sendAttempt_aside s).event.guarded⟩
  | unknownOperation | unknownCommand => exact ⟨_, rfl, turn_taken _ (checked_kept unknown_kept) s⟩

/-- Settles O50: the work of these events moves no own edition, so the end of the event alone does. -/
theorem editionsCountContentChanges : Obligations.EditionsCountContentChanges := by
  intro s t c x ran silent stays due
  obtain ⟨u, ran', taken⟩ := exec_taken c s stays silent due
  cases ran'.symm.trans ran
  exact taken.counted x

/-- A part reset in every block but its strap value and node ID, at any level of RESET_N, is sound. -/
theorem reset_sound_of_identity {s : State} (alone : s.joined = false) (position : s.identity.position = none)
    (signalling : s.signalling = Signalling.reset) (condition : s.condition = ⟨ConditionSide.reset, ConditionSide.reset⟩)
    (park : s.park = false) (resolver : s.resolver = Resolver.reset) (engine : s.engine = ⟨Engine.reset, Engine.reset⟩) :
    RestorationSound s := by
  have condition (x : Side) : s.condition.get x = ConditionSide.reset := by
    rw [condition]
    cases x <;> rfl
  have own (x : Side) : s.signalling.own.get x = OwnEntry.reset := by
    rw [signalling]
    cases x <;> rfl
  have engine (x : Side) : s.engine.get x = Engine.reset := by
    rw [engine]
    cases x <;> rfl
  refine (restorationSound_standalone_iff alone).2 ⟨position, by rw [signalling]; rfl, fun x => ?_, resolver, engine⟩
  exact ⟨by rw [condition]; decide, by rw [condition, park]; rfl, fun _ => ⟨by rw [condition]; rfl, park⟩,
    by rw [own, condition]; rfl, by rw [own, engine]; rfl⟩

theorem resetBlocks_sound (identity : Identity) (alone : identity.joined = false ∧ identity.position = none) (s : State)
    (level : Bool) : RestorationSound ((resetBlocks identity s).setResetN level) :=
  reset_sound_of_identity alone.1 alone.2 rfl rfl rfl rfl rfl

/-- A reset that is taken leaves a sound part, and one that is not leaves the part as it is or is an answer alone. -/
theorem exec_reset_sound {c : Instr} (resets : c.resets) (s : State) (sound : RestorationSound s) :
    ∃ t, exec c s = .next t ∧ RestorationSound t := by
  rcases resets with rfl | ⟨straps, rfl | rfl⟩
  · refine ⟨_, rfl, ?_⟩
    split
    · exact resetBlocks_sound _ ⟨rfl, rfl⟩ s false
    · exact sound
  · refine ⟨_, rfl, ?_⟩
    split
    · exact sound
    · exact resetBlocks_sound _ ⟨rfl, rfl⟩ s true
  · refine ⟨_, rfl, ?_⟩
    split
    next q c _ =>
      split
      · split
        · exact resetBlocks_sound _ ⟨rfl, rfl⟩ s s.resetN
        · exact (Aside.event (f := fun s => respond q c .check [] (takeRequest q s))
            ((takeRequest_aside q s).trans (respond_aside q c .check [] _))).sound sound
      · exact sound
    next => exact sound

theorem exec_sound (c : Instr) (s : State) (sound : RestorationSound s) : ∃ t, exec c s = .next t ∧ RestorationSound t := by
  by_cases resets : c.resets
  · exact exec_reset_sound resets s sound
  by_cases special : (∃ part, c = .localFrameStart part) ∨ ∃ y f o, c = .alignedFrameArrival y f o
  · rcases special with ⟨part, rfl⟩ | ⟨x, f, order, rfl⟩
    · refine ⟨_, rfl, ?_⟩
      split
      · exact frameStart_sound s part sound
      · exact (resetFrameStart_aside s part).kept.sound sound
    · refine ⟨_, rfl, ?_⟩
      split
      · exact event_sound (frameArrival_sound s x f order sound)
      · exact sound
  · push Not at special
    obtain ⟨t, ran, taken⟩ := exec_taken c s resets (fun y f o => special.2 y f o)
      fun part starts => absurd starts (special.1 part)
    exact ⟨t, ran, taken.sound sound⟩

/-- Settles O5: the command at the front is taken in a state that is sound whatever waits behind it. -/
theorem stepKeepsRestorationSound : Obligations.StepKeepsRestorationSound := by
  intro s t sound stepped
  unfold step at stepped
  split at stepped
  · cases stepped
    exact sound
  next c rest _ =>
    have waiting : Aside s (s.setPending rest) := rfl
    obtain ⟨u, ran, kept⟩ := exec_sound c (s.setPending rest) (waiting.kept.sound sound)
    cases ran.symm.trans stepped
    exact kept

end Sys2Proof.Machine

/-! PROOFS. The confirm timer's expiry (O32). -/

namespace Sys2Proof.Machine

/-! ### A notice that finds nothing to settle but the ring-quiet flag and the role -/

section
variable {s : State}

/-- Where the targets stand, no MANUAL is to be dropped and no partner test finds an answer, a notice settles the ring-quiet flag
and the role alone (R96, R100, R110). -/
theorem tableNotice_eq (h : Announced s) (joined : s.joined = true) (manual : ManualDropped s)
    (target : s.resolver.target = s.resolved.target) (answered : ∀ x, (s.engine.get x).Answered (s.partnerAction x)) :
    tableNotice s = { s with resolver := s.resolved } := by
  have pass : noticePass s = { s with resolver := s.resolved } := by
    rw [noticePass_eq_notified h.toConsistent joined, manual.dropManual_eq, notified_eq target answered h.ownAction]
  unfold tableNotice
  dsimp only
  rw [pass]
  exact if_pos rfl

/-- R follows the mode, the own position, N and the conditions of the table (R101, R102). -/
theorem resolved_restored_congr {t : State} (identity : t.identity = s.identity) (n : t.ringMap.n = s.ringMap.n)
    (h : TablesAgree Entry.condition s t) : t.resolved.restored = s.resolved.restored := by
  unfold State.resolved State.joined
  rw [identity, chooseRestored_congr n h]
  split <;> rfl

/-! ### The expiry (R114, R119) -/

/-- A confirm timer runs in BRIDGED and UNLOOPING alone, and there the part is JOINED. -/
theorem waiting_of_confirm {x : Side} (sound : RestorationSound s) (runs : (s.engine.get x).confirm.isSome) :
    ((s.engine.get x).phase = .bridged ∨ (s.engine.get x).phase = .unlooping) ∧ s.joined = true := by
  have phase := (sound.engine x).confirm.1 runs
  refine ⟨phase, Bool.not_eq_false _ ▸ fun alone => ?_⟩
  rw [(sound.engine x).standalone alone] at phase
  rcases phase with p | p <;> contradiction

theorem Engine.expire_waiting {e : Engine} (h : e.phase = .bridged ∨ e.phase = .unlooping) :
    e.expire = if e.phase = .bridged then ⟨.looped, none, true⟩ else ⟨.idle, none, false⟩ := by
  unfold Engine.expire
  rcases h with p | p <;> rw [p] <;> rfl

/-- The state that an expiry leaves before the Resolver's results follow: the engine and its action in the own entry. -/
def State.expired (s : State) (x : Side) : State :=
  { s with
    engine := s.engine.set x (s.engine.get x).expire
    signalling := { s.signalling with
      own := s.signalling.own.set x
        { s.signalling.own.get x with action := (s.engine.get x).expire.phase.action } } }

theorem expired_eq (s : State) (x : Side) : writeAction (s.updateEngine x Engine.expire) x = s.expired x := by
  cases x <;> rfl

/-- An expiry changes the action of the own entry (R62, R114, R119). -/
theorem expired_content {x : Side} (h : Announced s)
    (waits : (s.engine.get x).phase = .bridged ∨ (s.engine.get x).phase = .unlooping) :
    ((s.expired x).signalling.own.get x).content ≠ (s.signalling.own.get x).content := by
  intro same
  have action : (s.engine.get x).expire.phase.action = (s.signalling.own.get x).action := by
    have := congrArg Prod.snd same
    rwa [State.expired, Sides.get_set_self] at this
  rw [h.ownAction, Engine.expire_waiting waits] at action
  rcases waits with p | p <;> rw [p] at action <;> exact absurd action (by decide)

theorem expired_conditions (s : State) (x : Side) : TablesAgree Entry.condition s (s.expired x) :=
  tablesAgree_of_own rfl rfl fun y => by
    show ((s.signalling.own.set x _).get y).condition = _
    rw [Sides.get_set]
    split
    next same => rw [same]
    next => rfl

/-- The expiry of an engine that waits moves the engine and its action, and of the Resolver's results the ring-quiet flag and the
role: the conditions and the far ends stand (R110, R114, R119). -/
theorem confirmExpires_waiting {x : Side} (sound : RestorationSound s) (runs : (s.engine.get x).confirm.isSome) :
    confirmExpires x s = { s.expired x with resolver := (s.expired x).resolved } := by
  obtain ⟨waits, joined⟩ := waiting_of_confirm sound runs
  obtain ⟨announced, settled⟩ := (restorationSound_iff s).1 sound
  have acted := expired_announced x announced
  have answered := (expired_settled x settled).answered
  have differs := expired_content announced waits
  obtain ⟨size, position⟩ := announced.identity.ring joined
  have conditions := expired_conditions s x
  have partner (y : Side) : (s.expired x).partnerAction y = s.partnerAction y :=
    partnerAction_congr (s := s) (t := s.expired x) rfl rfl rfl size position y
  rw [confirmExpires_eq, expired_eq]
  rw [expired_eq] at acted
  unfold noticed
  rw [if_pos]
  · refine tableNotice_eq acted joined ?_ ?_ fun y => partner y ▸ answered y
    · unfold ManualDropped
      rw [learnedTrouble_congr conditions]
      exact settled.manual
    · rw [resolved_target_congr (s := s) (t := s.expired x) rfl rfl conditions, ← settled.resolver]
      rfl
  · refine (Bool.and_eq_true _ _).mpr ⟨joined, decide_eq_true fun same => differs ?_⟩
    cases x
    · exact congrArg Prod.fst same
    · exact congrArg Prod.snd same

end

theorem exec_confirmTimerExpiry_idle {s : State} {x : Side} (h : (s.engine.get x).confirm ≠ some 0) :
    exec (.confirmTimerExpiry x) s = .next s :=
  congrArg _ ((takeConfirmTimerExpiry_cases x s).resolve_right fun ⟨_, due, _⟩ => h due)

theorem exec_confirmTimerExpiry_due {s : State} {x : Side} (high : s.resetN = true) (sound : RestorationSound s)
    (h : (s.engine.get x).confirm = some 0) :
    exec (.confirmTimerExpiry x) s = .next (event (confirmExpires x) s) := by
  have waits := (waiting_of_confirm sound (by rw [h]; rfl)).1
  have due : timerDue (s.engine.get x).confirm = true := (timerDue_iff _).2 h
  show Host.Outcome.next (takeConfirmTimerExpiry x s) = _
  unfold takeConfirmTimerExpiry
  rw [if_pos]
  simpa [high, due] using waits

/-- Settles O32: the other engine's partner test finds what it found, and R follows conditions that stand. -/
theorem confirmExpiryMovesEngine : Obligations.ConfirmExpiryMovesEngine := by
  intro s x high events sound
  refine ⟨exec_confirmTimerExpiry_idle, fun due => ⟨_, exec_confirmTimerExpiry_due high sound due, ?_⟩⟩
  have runs : (s.engine.get x).confirm.isSome := by rw [due]; rfl
  have waits := (waiting_of_confirm sound runs).1
  obtain ⟨announced, settled⟩ := (restorationSound_iff s).1 sound
  have eq := confirmExpires_waiting sound runs
  have work : (confirmExpires x s).events = s.events ∧ (confirmExpires x s).transmit = s.transmit := by
    rw [eq]
    exact ⟨rfl, rfl⟩
  have reported := event_reported (confirmExpires x) s (by rw [work.1]) (by rw [work.1])
    (by rw [work.1]; exact ⟨rfl, rfl, rfl, rfl⟩) (by rw [work.1]) (by rw [work.1])
  rw [work.1, work.2, events.pulses] at reported
  refine ⟨?_, Sides.ext_get fun y => ?_, ?_, ?_, reported, ?_⟩
  · rw [event_frame, eq, ← Engine.expire_waiting waits]
    rfl
  · have own : (confirmExpires x s).signalling.own = (s.expired x).signalling.own := by rw [eq]
    rw [event_own, own, Sides.get_set]
    split
    next same =>
      subst same
      have differs := expired_content announced waits
      unfold OwnEntry.advance
      rw [if_neg differs, State.expired, Sides.get_set_self, Engine.expire_waiting waits]
      rcases waits with p | p <;> rw [p] <;> rfl
    next other =>
      rw [State.expired, Sides.get_set, if_neg other, OwnEntry.advance_self]
  · rw [event_frame, eq, settled.resolver]
    exact resolved_restored_congr (s := s) (t := s.expired x) rfl rfl (expired_conditions s x)
  · rw [event_frame, eq, settled.resolver]
    exact resolved_target_congr (s := s) (t := s.expired x) rfl rfl (expired_conditions s x)
  · conv_lhs => rw [event_frame, eq]
    conv_rhs => rw [event_frame, eq]
    rfl

end Sys2Proof.Machine

/-! PROOFS. The vector built (O12). -/

namespace Sys2Proof.Machine

/-! ### Entry words (R65, 11) -/

theorem Condition.ofCode_code (c : Condition) : Condition.ofCode c.code = some c := by cases c <;> rfl

theorem Action.ofCode_code (a : Action) : Action.ofCode a.code = some a := by cases a <;> rfl

theorem Condition.code_lt (c : Condition) : c.code < 7 := by cases c <;> decide

theorem Action.code_lt (a : Action) : a.code < 4 := by cases a <;> decide

section
variable (c : Condition) (a : Action) (e : Fin 16)

/-- A known entry word as a number: its four fields side by side (11). -/
theorem entryWord_toNat :
    (entryWord true c a e).toNat = 32768 + c.code * 4096 + a.code * 1024 + e.val * 64 := by
  have := c.code_lt
  have := a.code_lt
  have := e.isLt
  unfold entryWord
  rw [BitVec.toNat_ofNat, Nat.mod_eq_of_lt]
  · simp
  · simp
    omega

theorem entryKnown_entryWord : entryKnown (entryWord true c a e) = true := by
  have := c.code_lt
  have := a.code_lt
  have := e.isLt
  unfold entryKnown
  rw [BitVec.getLsbD, entryWord_toNat, Nat.testBit_eq_decide_div_mod_eq, decide_eq_true_eq]
  omega

theorem entryCondition_entryWord : entryCondition (entryWord true c a e) = some c := by
  have := c.code_lt
  have := a.code_lt
  have := e.isLt
  unfold entryCondition
  rw [BitVec.extractLsb'_toNat, entryWord_toNat, Nat.shiftRight_eq_div_pow, ← c.ofCode_code]
  congr 1
  omega

theorem entryAction_entryWord : entryAction (entryWord true c a e) = some a := by
  have := a.code_lt
  have := e.isLt
  unfold entryAction
  rw [BitVec.extractLsb'_toNat, entryWord_toNat, Nat.shiftRight_eq_div_pow, ← a.ofCode_code]
  congr 1
  omega

theorem entryEdition_entryWord : entryEdition (entryWord true c a e) = e := by
  have := e.isLt
  apply Fin.ext
  show ((entryWord true c a e).extractLsb' 6 4).toNat = e.val
  rw [BitVec.extractLsb'_toNat, entryWord_toNat, Nat.shiftRight_eq_div_pow]
  omega

end

/-! ### The entries in their order (R60) -/

/-- Entry 2p + offset is the entry of its span end. -/
theorem spanEnd_of_index {p i : Nat} {x : Side} (h : i = 2 * p + x.offset) : i / 2 = p ∧ sideOfIndex i = x := by
  subst h
  cases x
  · exact ⟨by simp [Side.offset], by simp [sideOfIndex, Side.offset]⟩
  · exact ⟨by simp [Side.offset]; omega, by simp [sideOfIndex, Side.offset]⟩

theorem buildVector_entries (s : State) (i : Fin 64) : (buildVector s).entries[i] = vectorEntry s i.val :=
  Vector.getElem_ofFn _

/-- The check does not cover itself (R178). -/
theorem sealed_check (v : SigVector) : v.sealed.check = checkOf v.sealed.bytes := rfl

/-- Settles O12: the header is read off, and an entry word gives back the fields that it was formed of. -/
theorem vectorCarriesTheTable : Obligations.VectorCarriesTheTable := by
  intro s
  refine ⟨rfl, ?_, rfl, rfl, sealed_check _, fun p x i index => ?_⟩
  · exact (BitVec.toNat_setWidth_of_le (by decide)).trans rfl
  · obtain ⟨position, side⟩ := spanEnd_of_index index
    dsimp only
    rw [buildVector_entries]
    unfold vectorEntry
    dsimp only
    rw [position, side]
    by_cases known : s.joined = true ∧ (s.entry p x).learned = true ∧ p.val < s.ringMap.n
    · rw [if_pos known, if_pos (by simpa [and_assoc] using known)]
      exact ⟨entryKnown_entryWord _ _ _, entryCondition_entryWord _ _ _, entryAction_entryWord _ _ _,
        entryEdition_entryWord _ _ _⟩
    · rw [if_neg known, if_neg (by simpa [and_assoc] using known)]
      rfl

end Sys2Proof.Machine

/-! PROOFS. The vector of an arriving frame: its tests (O25) and its merge (O26). -/

namespace Sys2Proof.Machine

/-! ### The acceptance tests (R53, R68 to R71) -/

theorem vectorGood_iff (v : SigVector) :
    vectorGood v = true ↔ ¬(v.check ≠ checkOf v.bytes ∨ (v.state ≠ 0x01#8 ∧ v.state ≠ 0x02#8)) := by
  unfold vectorGood standaloneCode joinedCode
  simp only [Bool.and_eq_true, Bool.or_eq_true, beq_iff_eq]
  tauto

/-- The ID expected across a span is that of the position there, where the map has such a position (R53). -/
theorem expectedNeighbour_iff {s : State} {p : Fin 32} (position : s.identity.position = some p) (x : Side) (id : Nat) :
    (s.expectedNeighbour x).any (·.val == id) = true ↔
      ∃ q : Fin 32, q.val = neighbourOf s.ringMap.n p.val x ∧ (s.ringMap.ids[q]).map (·.val) = some id := by
  have read : s.expectedNeighbour x = s.ringMap.idAt (neighbourOf s.ringMap.n p.val x) := by
    unfold State.expectedNeighbour
    rw [position]
    rfl
  rw [read]
  generalize neighbourOf s.ringMap.n p.val x = across
  constructor
  · intro h
    obtain ⟨i, holds, eq⟩ := (Option.any_eq_true _ _).1 h
    have below : across < 32 := by
      by_contra above
      rw [RingMap.idAt, elementAt_of_le _ (Nat.not_lt.1 above)] at holds
      contradiction
    exact ⟨⟨across, below⟩, rfl, by rw [← idAt_fin, holds, ← eq_of_beq eq]; rfl⟩
  · rintro ⟨q, rfl, named⟩
    obtain ⟨i, holds, eq⟩ := Option.map_eq_some_iff.1 named
    rw [idAt_fin, holds, ← eq]
    exact beq_self_eq_true _

/-- The three tests in their order (R68 to R71). -/
theorem vectorOutcome_eq {s : State} {p : Fin 32} (position : s.joined = true → s.identity.position = some p) (x : Side)
    (v : SigVector) :
    vectorOutcome s x v =
      if v.check ≠ checkOf v.bytes ∨ (v.state ≠ 0x01#8 ∧ v.state ≠ 0x02#8) then .failed
      else if s.joined = true ∧ (v.ringId ≠ s.ringMap.ringId ∨
          ¬∃ q : Fin 32, q.val = neighbourOf s.ringMap.n p.val x ∧
            (s.ringMap.ids[q]).map (·.val) = some v.sender.toNat) then .foreign
      else .passed := by
  unfold vectorOutcome
  refine if_congr ?_ rfl (if_congr ?_ rfl rfl)
  · rw [Bool.not_eq_true', ← Bool.not_eq_true, vectorGood_iff, not_not]
  · rw [Bool.and_eq_true]
    refine and_congr_right fun joined => ?_
    rw [Bool.or_eq_true, bne_iff_ne, Bool.not_eq_true', ← Bool.not_eq_true, expectedNeighbour_iff (position joined)]

/-- The tests read the identity and the Ring Map. -/
theorem vectorOutcome_congr {s t : State} (identity : t.identity = s.identity) (ringMap : t.ringMap = s.ringMap) (x : Side)
    (v : SigVector) : vectorOutcome t x v = vectorOutcome s x v := by
  unfold vectorOutcome State.expectedNeighbour State.joined
  rw [identity, ringMap]

/-- The two live conditions that a PASSED vector alone sets (R72, R73). -/
theorem noteVector_notes (s : State) (x : Side) (v : SigVector) :
    (noteVector s x v).signalling.neighbourStandalone =
        (if vectorOutcome s x v = .passed then s.signalling.neighbourStandalone.set x (v.state == 0x01#8)
        else s.signalling.neighbourStandalone) ∧
      (noteVector s x v).signalling.mapMismatch =
        (if vectorOutcome s x v = .passed then
          s.signalling.mapMismatch.set x (v.state == 0x02#8 && v.digest != s.ringMap.digest)
        else s.signalling.mapMismatch) := by
  unfold noteVector
  split
  next passed =>
    rw [if_pos passed, if_pos passed]
    exact ⟨rfl, rfl⟩
  next other =>
    rw [if_neg other, if_neg other]
    exact ⟨rfl, rfl⟩

/-! ### What the rest of an arrival leaves of the vector's notes -/

/-- From s to t neither live condition of a received vector moves. -/
def NotesStand (s t : State) : Prop :=
  t.signalling.neighbourStandalone = s.signalling.neighbourStandalone ∧ t.signalling.mapMismatch = s.signalling.mapMismatch

theorem NotesStand.trans {s t u : State} (h : NotesStand s t) (k : NotesStand t u) : NotesStand s u :=
  ⟨k.1.trans h.1, k.2.trans h.2⟩

theorem RestorationFrame.notesStand {s t : State} (h : RestorationFrame s t) : NotesStand s t := by
  unfold NotesStand
  rw [h]
  exact ⟨rfl, rfl⟩

theorem closeMonitor_notesStand (x : Side) (changes : List Report) (s : State) :
    NotesStand s (closeMonitor x changes s) :=
  (closeMonitor_frame x changes s).notesStand

theorem monitorArrival_notesStand (x : Side) (outcome : VectorOutcome) (parity : Option Nat) (s : State) :
    NotesStand s (monitorArrival x outcome parity s) := by
  unfold monitorArrival
  dsimp only
  split
  · exact closeMonitor_notesStand x _ ((countParity s x _).setMonitor _)
  · exact closeMonitor_notesStand x _ (s.setMonitor _)

theorem arrivalMerge_notesStand (start : Sides OwnEntry) (x : Side) (v : SigVector) (qualifies : Bool) (s : State) :
    NotesStand s (arrivalMerge start x v qualifies s) := by
  have merged (p : Nat) : NotesStand s (mergeEntries start s x v p) := by
    unfold NotesStand
    rw [mergeEntries_elsewhere]
    exact ⟨rfl, rfl⟩
  unfold arrivalMerge mergeVector
  split
  · split
    · dsimp only
      split
      · exact (merged _).trans (tableNotice_frame _).notesStand
      · exact merged _
    · exact ⟨rfl, rfl⟩
  · exact ⟨rfl, rfl⟩

/-- After the vector is noted nothing in the arrival moves its notes. -/
theorem frameArrival_notesStand (x : Side) (f : LineFrame) (order : ArrivalOrder) (s : State) :
    NotesStand (arrivalTaken x f s) (frameArrival x f order s) := by
  have routed (u : State) : NotesStand u (routeManagement (routeLineCell x) f.management u) := by
    unfold NotesStand
    rw [routeManagement_frame f.management u (routeLineCell_frame x)]
    exact ⟨rfl, rfl⟩
  rw [frameArrival_eq]
  refine NotesStand.trans ?_ (routed _)
  cases order with
  | mergeFirst => exact (arrivalMerge_notesStand _ x _ _ _).trans (monitorArrival_notesStand x _ _ _)
  | monitorFirst => exact (monitorArrival_notesStand x _ _ _).trans (arrivalMerge_notesStand _ x _ _ _)

theorem exec_alignedFrameArrival {s : State} {x : Side} (high : s.resetN = true) (signal : s.losPin.get x = false)
    (aligned : (s.receiver.get x).align = .aligned) (f : LineFrame) (o : ArrivalOrder) :
    exec (.alignedFrameArrival x f o) s = .next (event (frameArrival x f o) s) := by
  have receives : receiving s x .aligned = true := by simp [receiving, high, signal, aligned]
  show Host.Outcome.next (if receiving s x .aligned then _ else _) = _
  rw [if_pos receives]

/-- What the buffer and the receiver take of an arriving frame is aside of what its vector is tested against. -/
theorem arrivalTaken_notes (x : Side) (f : LineFrame) (s : State) :
    (arrivalTaken x f s).signalling.neighbourStandalone =
        (if vectorOutcome s x f.vector = .passed then s.signalling.neighbourStandalone.set x (f.vector.state == 0x01#8)
        else s.signalling.neighbourStandalone) ∧
      (arrivalTaken x f s).signalling.mapMismatch =
        (if vectorOutcome s x f.vector = .passed then
          s.signalling.mapMismatch.set x (f.vector.state == 0x02#8 && f.vector.digest != s.ringMap.digest)
        else s.signalling.mapMismatch) := by
  have notes := noteVector_notes (arrivalStored x f s) x f.vector
  have aside := arrivalStored_aside s x f
  have identity : (arrivalStored x f s).identity = s.identity := by rw [aside]
  have ringMap : (arrivalStored x f s).ringMap = s.ringMap := by rw [aside]
  have signalling : (arrivalStored x f s).signalling = s.signalling := by
    unfold arrivalStored
    rw [bufferArrival_frame x f.slots s]
    rfl
  rw [vectorOutcome_congr identity ringMap, ringMap, signalling] at notes
  exact notes

/-- Settles O25: the tests read what an arrival leaves alone, and only the noting of the vector moves the two conditions. -/
theorem arrivingVectorIsTested : Obligations.ArrivingVectorIsTested := by
  intro s x f o p high signal aligned position across
  have at' : across = neighbourOf s.ringMap.n p.val x := by cases x <;> rfl
  obtain ⟨neighbour, mismatch⟩ := frameArrival_notesStand x f o s
  obtain ⟨noted, compared⟩ := arrivalTaken_notes x f s
  refine ⟨_, exec_alignedFrameArrival high signal aligned f o, ?_, ?_, ?_⟩
  · rw [at']
    exact vectorOutcome_eq position x f.vector
  · rw [event_frame, ← noted]
    exact neighbour
  · rw [event_frame, ← compared]
    exact mismatch

end Sys2Proof.Machine

/-! PROOFS. The merge of an arriving frame's vector (O26). -/

namespace Sys2Proof.Machine

/-! ### What the rest of an arrival leaves of the merge -/

/-- From s to t the identity, the Ring Map, the remote entries, the own editions and the entries-ignored counter of side x
stand. -/
structure MergeStands (x : Side) (s t : State) : Prop where
  identity : t.identity = s.identity
  ringMap : t.ringMap = s.ringMap
  rct : t.signalling.rct = s.signalling.rct
  editions : EditionsStand s t
  ignored : t.count (.entriesIgnored x) = s.count (.entriesIgnored x)

section
variable {x : Side} {s t u : State}

theorem MergeStands.refl (x : Side) (s : State) : MergeStands x s s := ⟨rfl, rfl, rfl, .refl s, rfl⟩

theorem MergeStands.trans (h : MergeStands x s t) (k : MergeStands x t u) : MergeStands x s u :=
  ⟨k.identity.trans h.identity, k.ringMap.trans h.ringMap, k.rct.trans h.rct, h.editions.trans k.editions,
    k.ignored.trans h.ignored⟩

/-- A chain of notices moves own contents alone. -/
theorem RestorationFrame.mergeStands (h : RestorationFrame s t) (editions : EditionsStand s t) : MergeStands x s t := by
  refine ⟨?_, ?_, ?_, editions, ?_⟩
  · rw [h]
  · rw [h]
  · rw [h]
  · unfold State.count
    rw [h]

theorem bump_mergeStands (s : State) (k : Counter) (n : Nat) (h : k ≠ .entriesIgnored x) : MergeStands x s (s.bump k n) :=
  ⟨rfl, rfl, rfl, .of_own rfl, by rw [State.count_bump, if_neg h.symm]⟩

/-- Work on what a merge does not touch. -/
theorem MergeStands.of_frame (frame : t = { t with
      identity := s.identity, ringMap := s.ringMap, counters := s.counters
      signalling := { t.signalling with rct := s.signalling.rct, own := s.signalling.own } }) : MergeStands x s t := by
  refine ⟨?_, ?_, ?_, .of_own ?_, ?_⟩
  · rw [frame]
  · rw [frame]
  · rw [frame]
  · rw [frame]
  · unfold State.count
    rw [frame]

theorem raise_mergeStands (s : State) (p : Pulse) : MergeStands x s (s.raise p) := .of_frame rfl

theorem bufferArrival_mergeStands (y : Side) (f : LineSlots) (s : State) : MergeStands x s (bufferArrival y f s) := by
  unfold bufferArrival
  dsimp only
  split
  · exact .of_frame rfl
  · exact .of_frame rfl
  · have stored (b : Sides Buffer) : MergeStands x s (s.setBuffer b) := .of_frame rfl
    split
    · exact stored _
    · exact ((stored _).trans (bump_mergeStands _ (.slips y) 1 nofun)).trans (raise_mergeStands _ _)

theorem noteVector_mergeStands (s : State) (y : Side) (v : SigVector) : MergeStands x s (noteVector s y v) := by
  unfold noteVector
  split
  · exact .of_frame rfl
  · exact bump_mergeStands s (.vectorsDiscarded y) 1 nofun

theorem arrivalTaken_mergeStands (y : Side) (f : LineFrame) (s : State) : MergeStands x s (arrivalTaken y f s) := by
  have held (u : State) : MergeStands x u (u.updateReceiver y fun r => { r with heldParity := some (laneParity f.slots) }) :=
    .of_frame rfl
  exact ((bufferArrival_mergeStands y f.slots s).trans (held _)).trans (noteVector_mergeStands _ y f.vector)

theorem closeMonitor_mergeStands (y : Side) (changes : List Report) (s : State) :
    MergeStands x s (closeMonitor y changes s) := by
  have taken : MergeStands x s (s.setMonitor (s.monitor.set y
      ((s.monitor.get y).formFlag s.joined s.profile.holdOffTime).1)) := .of_frame rfl
  exact taken.trans ((closeMonitor_frame y changes s).mergeStands (takeReports_reportWork y _ _).kept.editions)

theorem monitorArrival_mergeStands (y : Side) (outcome : VectorOutcome) (parity : Option Nat) (s : State) :
    MergeStands x s (monitorArrival y outcome parity s) := by
  have taken (u : State) (m : Sides Monitor) : MergeStands x u (u.setMonitor m) := .of_frame rfl
  unfold monitorArrival
  dsimp only
  split
  next v =>
    have counted : MergeStands x s (countParity s y v) :=
      (bump_mergeStands s (.violations y) v nofun).trans (bump_mergeStands _ (.erroredFrames y) _ nofun)
    exact (counted.trans (taken _ _)).trans (closeMonitor_mergeStands y _ _)
  next => exact (taken _ _).trans (closeMonitor_mergeStands y _ _)

theorem routeLineCell_mergeStands (y : Side) (c : Cell) (s : State) : MergeStands x s (routeLineCell y c s) := by
  have dropped : MergeStands x s (transitDrop s) :=
    (bump_mergeStands s .transitDrops 1 nofun).trans (raise_mergeStands _ _)
  have requested (q : Port) (c : Cell) : MergeStands x s (queueRequest q c s) := by
    unfold queueRequest
    split
    · exact .of_frame rfl
    · exact (bump_mergeStands s .requestOverflows 1 nofun).trans (raise_mergeStands _ _)
  have queued (q : Port) (c : Cell) : MergeStands x s (queueCell q c s) := by
    unfold queueCell
    split
    · exact .of_frame rfl
    · exact dropped
  unfold routeLineCell
  split
  · exact bump_mergeStands s (.cellsDiscarded y) 1 nofun
  split
  · exact .refl x s
  split
  · exact .refl x s
  split
  · split
    · exact requested _ c
    · exact queued _ c
  split
  · exact dropped
  · exact queued _ _

theorem routeManagement_mergeStands (y : Side) (m : Management) (s : State) :
    MergeStands x s (routeManagement (routeLineCell y) m s) := by
  unfold routeManagement
  split
  · exact routeLineCell_mergeStands y m.cell s
  · exact .refl x s

end

/-- Whatever the order of an arrival's two events, the merge is made in a state with the table, editions and count of the arrival,
and nothing after it moves them. -/
theorem frameArrival_merge (x : Side) (f : LineFrame) (order : ArrivalOrder) (s : State) :
    ∃ u, MergeStands x s u ∧
      MergeStands x (arrivalMerge s.signalling.own x f.vector (mergeable s x f.vector) u) (frameArrival x f order s) := by
  have taken := arrivalTaken_mergeStands (x := x) x f s
  rw [frameArrival_eq]
  cases order with
  | mergeFirst =>
    exact ⟨_, taken, (monitorArrival_mergeStands x _ _ _).trans (routeManagement_mergeStands x f.management _)⟩
  | monitorFirst =>
    exact ⟨_, taken.trans (monitorArrival_mergeStands x _ _ _), routeManagement_mergeStands x f.management _⟩

/-! ### The merge (R74 to R79) -/

theorem mergeable_iff (s : State) (x : Side) (v : SigVector) :
    mergeable s x v = true ↔
      s.joined = true ∧ vectorOutcome s x v = .passed ∧ v.state = 0x02#8 ∧ v.digest = s.ringMap.digest := by
  unfold mergeable joinedCode
  simp only [Bool.and_eq_true, beq_iff_eq]
  tauto

theorem newer_iff (held received : Fin 16) :
    newer held received = true ↔ 1 ≤ (received - held).val ∧ (received - held).val ≤ 8 := by
  unfold newer
  rw [Bool.and_eq_true, decide_eq_true_eq, decide_eq_true_eq]

/-- A remote entry adopts where it is unlearned or the received edition is newer (R75, R77). -/
theorem adopt_eq (x : Side) (held : Entry) (r : Received) :
    adopt x held r =
      if held.source = none ∨ (1 ≤ (r.edition - held.edition).val ∧ (r.edition - held.edition).val ≤ 8) then
        ⟨r.condition, r.action, r.edition, some (.line x)⟩
      else held := by
  unfold adopt Entry.learned
  refine if_congr ?_ rfl rfl
  rw [Bool.or_eq_true, newer_iff, Bool.not_eq_true', Option.isSome_eq_false_iff, Option.isNone_iff_eq_none]

/-- The edition of a catch-up (R78). -/
theorem catchUp_edition (start : OwnEntry) {o : OwnEntry} (edition : o.edition = start.edition) (r : Received) :
    (catchUp start.content o r).edition =
      if (1 ≤ (r.edition - start.edition).val ∧ (r.edition - start.edition).val ≤ 8) ∨
          (r.edition = start.edition ∧ (r.condition, r.action) ≠ (start.condition, start.action)) then r.edition + 1
      else start.edition := by
  unfold catchUp
  rw [apply_ite OwnEntry.edition, edition]
  refine if_congr ?_ rfl rfl
  rw [Bool.or_eq_true, newer_iff, Bool.and_eq_true, beq_iff_eq, bne_iff_ne]
  exact or_congr_right (and_congr_right fun _ => ne_comm)

/-- The notice that a merge hands moves no remote entry, no own edition and no counter. -/
theorem arrivalMerge_stands {start : Sides OwnEntry} {x : Side} {v : SigVector} {s : State} {p : Fin 32}
    (position : s.identity.position = some p) :
    MergeStands x (mergeEntries start s x v p.val) (arrivalMerge start x v true s) := by
  unfold arrivalMerge mergeVector
  rw [if_pos rfl, position]
  dsimp only
  split
  · exact (tableNotice_frame _).mergeStands (tableNotice_editionsStand _)
  · exact .refl x _

/-! ### The entries that count as ignored (R76, R173; log 27) -/

theorem Condition.ofCode_isNone {n : Nat} (h : n < 8) : (Condition.ofCode n).isNone = decide (n = 7) := by
  interval_cases n <;> rfl

theorem Action.ofCode_isNone {n : Nat} (h : n < 4) : (Action.ofCode n).isNone = decide (n = 3) := by
  interval_cases n <;> rfl

theorem ignoredEntry_fin (n : Nat) (v : SigVector) (i : Fin 64) :
    ignoredEntry n v i.val =
      (entryKnown v.entries[i] && decide (i.val / 2 < n) &&
        (decide ((v.entries[i].extractLsb' 12 3).toNat = 7) || decide ((v.entries[i].extractLsb' 10 2).toNat = 3))) := by
  unfold ignoredEntry entryCondition entryAction
  dsimp only
  rw [elementAt_of_lt v.entries i.isLt, Condition.ofCode_isNone (BitVec.isLt _), Action.ofCode_isNone (BitVec.isLt _)]
  rfl

theorem State.count_setSignalling (s : State) (v : Signalling) (k : Counter) : (s.setSignalling v).count k = s.count k := rfl

theorem mergeEntries_count (start : Sides OwnEntry) (s : State) (x : Side) (v : SigVector) (p : Nat) :
    (mergeEntries start s x v p).count (.entriesIgnored x) =
      advanced (s.count (.entriesIgnored x)) ((List.range 64).countP (ignoredEntry s.ringMap.n v)) := by
  unfold mergeEntries
  dsimp only
  rw [State.count_bump, if_pos rfl, State.count_setSignalling]

theorem mergeEntries_ignored (start : Sides OwnEntry) (s : State) (x : Side) (v : SigVector) (p : Nat) :
    (mergeEntries start s x v p).count (.entriesIgnored x) = advanced (s.count (.entriesIgnored x))
      ((List.finRange 64).countP fun i =>
        entryKnown v.entries[i] && decide (i.val / 2 < s.ringMap.n) &&
          (decide ((v.entries[i].extractLsb' 12 3).toNat = 7) ||
            decide ((v.entries[i].extractLsb' 10 2).toNat = 3))) := by
  have range : (List.range 64).countP (ignoredEntry s.ringMap.n v) =
      (List.finRange 64).countP fun i => ignoredEntry s.ringMap.n v i.val := by
    rw [← List.map_coe_finRange_eq_range, List.countP_map]
    rfl
  rw [funext (ignoredEntry_fin s.ringMap.n v)] at range
  rw [mergeEntries_count, range]

/-- Settles O26: the merge is made on the table, editions and count of the arrival, and the end of the event advances an own
edition once more where the content differs. -/
theorem arrivingVectorIsMerged : Obligations.ArrivingVectorIsMerged := by
  intro s x f o p high signal aligned position
  refine ⟨_, exec_alignedFrameArrival high signal aligned f o, ?_⟩
  obtain ⟨u, before, after⟩ := frameArrival_merge x f o s
  have rct : (event (frameArrival x f o) s).signalling.rct = (frameArrival x f o s).signalling.rct := by rw [event_frame]
  have count : (event (frameArrival x f o) s).count (.entriesIgnored x) =
      (frameArrival x f o s).count (.entriesIgnored x) := by
    unfold State.count
    rw [event_frame]
  have edition (y : Side) : ((event (frameArrival x f o) s).signalling.own.get y).edition =
      if ((event (frameArrival x f o) s).signalling.own.get y).content = (s.signalling.own.get y).content then
        ((frameArrival x f o s).signalling.own.get y).edition
      else ((frameArrival x f o s).signalling.own.get y).edition + 1 := by
    rw [event_own, OwnEntry.advance_content, OwnEntry.advance_edition]
  dsimp only
  rw [rct, count, after.rct, after.ignored]
  simp only [after.editions _] at edition
  clear rct count after
  by_cases merges : mergeable s x f.vector = true
  · have merged := (mergeable_iff s x f.vector).1 merges
    have own : u.identity.position = some p := by rw [before.identity, position merged.1]
    have stands := arrivalMerge_stands (start := s.signalling.own) (x := x) (v := f.vector) own
    rw [merges] at edition ⊢
    simp only [stands.editions _] at edition
    rw [stands.rct, stands.ignored]
    clear stands
    refine ⟨fun i => ?_, fun y => ?_, ?_⟩
    · by_cases elsewhere : i.val / 2 = p.val
      · rw [if_neg fun h => h.2 elsewhere]
        cases received : receivedEntry s.ringMap.n f.vector i.val with
        | none => rw [mergeEntries_rct_of_none (before.ringMap ▸ received), before.rct]
        | some r => rw [mergeEntries_rct_of_some (before.ringMap ▸ received), if_pos elsewhere, before.rct]
      · rw [if_pos ⟨merged, elsewhere⟩]
        cases received : receivedEntry s.ringMap.n f.vector i.val with
        | none => rw [mergeEntries_rct_of_none (before.ringMap ▸ received), before.rct]
        | some r =>
          rw [mergeEntries_rct_of_some (before.ringMap ▸ received), if_neg elsewhere, before.rct, adopt_eq]
    · refine (edition y).trans (if_congr Iff.rfl ?_ (congrArg (· + 1) ?_))
      all_goals
        cases received : receivedEntry s.ringMap.n f.vector (2 * p.val + y.offset) with
        | none =>
          rw [mergeEntries_own_of_none (before.ringMap ▸ received)]
          exact before.editions y
        | some r =>
          rw [mergeEntries_own_of_some (before.ringMap ▸ received), catchUp_edition _ (before.editions y)]
          exact if_congr (and_iff_right merged).symm rfl rfl
    · rw [mergeEntries_ignored, before.ignored, before.ringMap, if_pos merged]
  · have unmerged := mt (mergeable_iff s x f.vector).2 merges
    have stays : arrivalMerge s.signalling.own x f.vector (mergeable s x f.vector) u = u := if_neg merges
    rw [stays] at edition ⊢
    refine ⟨fun i => ?_, fun y => ?_, ?_⟩
    · rw [if_neg fun h => unmerged h.1, before.rct]
    · refine (edition y).trans (if_congr Iff.rfl ?_ (congrArg (· + 1) ?_))
      all_goals
        rw [before.editions y]
        split
        · rw [if_neg fun h => unmerged h.1]
        · rfl
    · rw [if_neg unmerged, advanced_zero, before.ignored]

end Sys2Proof.Machine

/-! PROOFS. The Resolver's results: the restored set (O54), the role and the loop targets (O55). -/

namespace Sys2Proof.Machine

/-! ### Span conditions by code (R101) -/

/-- A span condition has the higher of the codes of the span's two ends (R101). -/
theorem spanCondition_code (s : State) (j : Nat) :
    (s.spanCondition j).code =
      max ((s.entry j .east).countedCondition).code ((s.entry ((j + 1) % s.ringMap.n) .west).countedCondition).code :=
  Condition.code_higher _ _

theorem Condition.code_eq_iff {a b : Condition} : a.code = b.code ↔ a = b :=
  ⟨Condition.code_injective, congrArg _⟩

theorem Condition.classA_iff (c : Condition) : c.classA = true ↔ c.code = 4 ∨ c.code = 5 := by
  cases c <;> decide

/-! ### Sets of spans -/

theorem getLsbD_spanSet (n : Nat) (test : Nat → Bool) (k : Fin 32) :
    (spanSet n test).getLsbD k = true ↔ k.val < n ∧ test k = true := by
  unfold spanSet
  simp

/-- The set of the lowest span that passes a test holds that span alone. -/
theorem getLsbD_lowestSpan (n : Nat) (test : Nat → Bool) (k : Fin 32) :
    (lowestSpan n test).getLsbD k = true ↔ k.val < n ∧ test k = true ∧ ∀ j < k.val, test j = false := by
  have least : (List.range n).find? test = some k.val ↔ test k = true ∧ k.val < n ∧ ∀ j < k.val, test j = false := by
    simp [List.find?_range_eq_some]
  rw [and_left_comm, ← least]
  unfold lowestSpan
  cases found : (List.range n).find? test with
  | none => simp
  | some m =>
    have below : m < n := List.mem_range.1 (List.mem_of_find?_eq_some found)
    dsimp only
    rw [getLsbD_spanSet, beq_iff_eq, Option.some.injEq, eq_comm (a := m)]
    exact ⟨And.right, fun same => ⟨same ▸ below, same⟩⟩

/-! ### The restored set (R102) -/

theorem learnedPark_iff (s : State) :
    s.learnedPark = true ↔ ∃ p : Fin 32, ∃ x, (s.entry p x).learned = true ∧ (s.entry p x).condition = .park := by
  unfold State.learnedPark
  rw [anyLearned_iff]
  simp

theorem Side.exists_iff {P : Side → Prop} : (∃ x, P x) ↔ P .east ∨ P .west :=
  ⟨fun ⟨x, h⟩ => by cases x; exacts [.inl h, .inr h], fun h => h.elim (⟨_, ·⟩) (⟨_, ·⟩)⟩

/-- Some span condition is c, by the code of c. -/
theorem anySpan_iff (s : State) (c : Condition) :
    ((List.range s.ringMap.n).any fun j => s.spanCondition j == c) = true ↔
      ∃ j < s.ringMap.n, (s.spanCondition j).code = c.code := by
  simp [Condition.code_eq_iff]

theorem anySpan_classA_iff (s : State) :
    ((List.range s.ringMap.n).any fun j => (s.spanCondition j).classA) = true ↔
      ∃ j < s.ringMap.n, (s.spanCondition j).code = 4 ∨ (s.spanCondition j).code = 5 := by
  simp [Condition.classA_iff]

/-- A step of R102: the set of the step where its test holds, and else that of the steps after it. -/
theorem getLsbD_step {c c' : Prop} [Decidable c] [Decidable c'] {a b : Bits} {k : Fin 32} {below p q : Prop} (test : c ↔ c')
    (taken : a.getLsbD k = true ↔ below ∧ p) (after : b.getLsbD k = true ↔ below ∧ q) :
    (if c then a else b).getLsbD k = true ↔ below ∧ if c' then p else q := by
  by_cases h : c
  · rw [if_pos h, if_pos (test.1 h)]
    exact taken
  · rw [if_neg h, if_neg (mt test.2 h)]
    exact after

/-- The lowest span below n of one condition, by the code of that condition. -/
theorem getLsbD_lowestSpan_code (s : State) (c : Condition) (k : Fin 32) :
    (lowestSpan s.ringMap.n fun j => s.spanCondition j == c).getLsbD k = true ↔ k.val < s.ringMap.n ∧
      ((s.spanCondition k).code == c.code && (List.range k).all fun j => (s.spanCondition j).code != c.code) = true := by
  rw [getLsbD_lowestSpan]
  simp [Condition.code_eq_iff]

/-- R, by the codes of the span conditions. -/
theorem getLsbD_chooseRestored (s : State) (k : Fin 32) :
    let n := s.ringMap.n
    let cond := fun j : Nat => (s.spanCondition j).code
    let lowest := fun v : Nat => cond k == v && (List.range k).all fun j => cond j != v
    s.chooseRestored.getLsbD k = true ↔ k.val < n ∧
      if s.learnedPark = true then False
      else if ∃ j < n, cond j = 4 ∨ cond j = 5 then cond k = 4 ∨ cond k = 5
      else if ∃ j < n, cond j = 3 then cond k = 3
      else if ∃ j < n, cond j = 2 then lowest 2 = true
      else lowest 1 = true := by
  refine getLsbD_step Iff.rfl (by simp) <| getLsbD_step (anySpan_classA_iff s) ?_ <| getLsbD_step (anySpan_iff s .fade) ?_ <|
    getLsbD_step (anySpan_iff s .manual) (getLsbD_lowestSpan_code s .manual k) (getLsbD_lowestSpan_code s .hold k)
  · rw [getLsbD_spanSet, Condition.classA_iff]
  · rw [getLsbD_spanSet, beq_iff_eq, ← Condition.code_eq_iff]
    rfl

/-- Settles O54: each step's set, with the span conditions and the learned PARK entries in the terms of R101 and R102. -/
theorem restoredSetIsChosen : Obligations.RestoredSetIsChosen := by
  intro s k
  have park : s.learnedPark = true ↔ ∃ p : Fin 32,
      ((s.entry p .east).learned && (s.entry p .east).condition == .park) = true ∨
        ((s.entry p .west).learned && (s.entry p .west).condition == .park) = true := by
    rw [learnedPark_iff]
    simp only [Side.exists_iff, Bool.and_eq_true, beq_iff_eq]
  have chosen := getLsbD_chooseRestored s k
  simp only [spanCondition_code, park] at chosen
  exact chosen

/-! ### The role and the targets (R104 to R106) -/

/-- The Resolver's results of a JOINED part at position p. -/
theorem resolver_joined {s : State} {p : Fin 32} (sound : RestorationSound s) (joined : s.joined = true)
    (position : s.identity.position = some p) :
    s.resolver =
      ⟨s.chooseRestored, some (ownSegment s.ringMap.n s.chooseRestored p.val), s.quiet,
        roleOf s.ringMap.n s.chooseRestored s.quiet p.val,
        ⟨s.chooseRestored.getLsbD p.val, s.chooseRestored.getLsbD ((p.val + s.ringMap.n - 1) % s.ringMap.n)⟩⟩ := by
  rw [sound.resolver]
  unfold State.resolved
  rw [joined, position]
  rfl

/-- The ring is quiet where every learned entry announces PASS (R104). -/
theorem quiet_iff (s : State) :
    s.quiet = true ↔ ∀ q : Fin 32, ∀ x, (s.entry q x).learned = true → (s.entry q x).action = .pass := by
  unfold State.quiet
  rw [Bool.not_eq_true', ← Bool.not_eq_true, anyLearned_iff]
  simp

/-- Settles O55: the results are those of the table as it stands. -/
theorem roleAndTargetsFollow : Obligations.RoleAndTargetsFollow := by
  intro s p sound
  refine ⟨fun alone => ?_, fun joined position => ?_⟩
  · obtain ⟨-, -, -, resolver, -⟩ := (restorationSound_standalone_iff alone).1 sound
    exact resolver
  · rw [resolver_joined sound joined position]
    refine ⟨?_, rfl, quiet_iff s⟩
    simp [roleOf, spanFaced]

end Sys2Proof.Machine

/-! PROOFS. The own segment is the run of positions joined by spans that are not in R (O56). -/

namespace Sys2Proof.Machine

/-! ### Runs of spans round the ring (R104) -/

/-- Going east from position p of a ring of n nodes, no span of the next m is in R. -/
def OpenEast (n : Nat) (restored : Bits) (p m : Nat) : Prop :=
  ∀ i < m, restored.getLsbD ((p + i) % n) = false

/-- Position q lies at most n − 1 spans east of p, and no span between them is in R. -/
def JoinedEast (n : Nat) (restored : Bits) (p q : Nat) : Prop :=
  ∃ j < n, (p + j) % n = q ∧ OpenEast n restored p j

section
variable {n : Nat} {restored : Bits}

/-- Going east ends at the first span in R, or where the fuel does. -/
theorem segmentLast_spec (fuel : Nat) {q : Nat} (below : q < n) :
    ∃ j ≤ fuel, segmentLast n restored fuel q = (q + j) % n ∧ OpenEast n restored q j ∧
      (j < fuel → restored.getLsbD ((q + j) % n) = true) := by
  induction fuel generalizing q with
  | zero => exact ⟨0, le_rfl, (Nat.mod_eq_of_lt below).symm, nofun, nofun⟩
  | succ fuel ih =>
    unfold segmentLast
    by_cases cut : restored.getLsbD (spanFaced n q .east) = true
    · rw [if_pos cut]
      exact ⟨0, Nat.zero_le _, (Nat.mod_eq_of_lt below).symm, nofun, fun _ => (Nat.mod_eq_of_lt below).symm ▸ cut⟩
    · rw [if_neg cut]
      obtain ⟨j, le, ends, isOpen, stop⟩ := ih (q := neighbourOf n q .east) (Nat.mod_lt _ (by omega))
      have shift (i : Nat) : (neighbourOf n q .east + i) % n = (q + (i + 1)) % n := by
        show ((q + 1) % n + i) % n = _
        rw [Nat.mod_add_mod, Nat.add_right_comm, Nat.add_assoc]
      rw [shift] at ends stop
      refine ⟨j + 1, by omega, ends, fun i lt => ?_, fun lt => stop (by omega)⟩
      cases i with
      | zero =>
        rw [Nat.add_zero, Nat.mod_eq_of_lt below]
        exact eq_false_of_ne_true cut
      | succ i => exact shift i ▸ isOpen i (by omega)

/-- Going west ends east of the first span in R, or where the fuel does. -/
theorem segmentFirst_spec (fuel : Nat) {q : Nat} (below : q < n) :
    ∃ i ≤ fuel, segmentFirst n restored fuel q < n ∧ (segmentFirst n restored fuel q + i) % n = q ∧
      OpenEast n restored (segmentFirst n restored fuel q) i ∧
      (i < fuel → restored.getLsbD ((segmentFirst n restored fuel q + (n - 1)) % n) = true) := by
  induction fuel generalizing q with
  | zero => exact ⟨0, le_rfl, below, Nat.mod_eq_of_lt below, nofun, nofun⟩
  | succ fuel ih =>
    unfold segmentFirst
    by_cases cut : restored.getLsbD (spanFaced n q .west) = true
    · rw [if_pos cut]
      refine ⟨0, Nat.zero_le _, below, Nat.mod_eq_of_lt below, nofun, fun _ => ?_⟩
      rw [← Nat.add_sub_assoc (by omega)]
      exact cut
    · rw [if_neg cut]
      obtain ⟨i, le, place, back, isOpen, stop⟩ := ih (q := neighbourOf n q .west) (Nat.mod_lt _ (by omega))
      refine ⟨i + 1, by omega, place, ?_, fun m lt => ?_, fun lt => stop (by omega)⟩
      · rw [← Nat.add_assoc, ← Nat.mod_add_mod, back]
        show ((q + n - 1) % n + 1) % n = q
        rw [Nat.mod_add_mod, Nat.sub_add_cancel (by omega), Nat.add_mod_right, Nat.mod_eq_of_lt below]
      · rcases Nat.lt_succ_iff_lt_or_eq.1 lt with earlier | rfl
        · exact isOpen m earlier
        · rw [back]
          exact eq_false_of_ne_true cut

/-- Two positions that lie the same number of spans, below n, east of a are the same number. -/
theorem offset_eq {a c d : Nat} (lc : c < n) (ld : d < n) (same : (a + c) % n = (a + d) % n) : c = d := by
  have := Nat.ModEq.add_left_cancel' a same
  rwa [Nat.ModEq, Nat.mod_eq_of_lt lc, Nat.mod_eq_of_lt ld] at this

/-- How far east of a a position below n lies. -/
theorem exists_offset {a q : Nat} (la : a < n) (lq : q < n) :
    ∃ d < n, q = (a + d) % n ∧ (q + n - a) % n = d := by
  refine ⟨(q + n - a) % n, Nat.mod_lt _ (by omega), ?_, rfl⟩
  rw [Nat.add_mod_mod, Nat.add_sub_cancel' (by omega), Nat.add_mod_right, Nat.mod_eq_of_lt lq]

theorem openEast_shift {a i m : Nat} :
    OpenEast n restored ((a + i) % n) m ↔ ∀ k, i ≤ k → k < i + m → restored.getLsbD ((a + k) % n) = false := by
  constructor
  · intro h k from' below
    have := h (k - i) (by omega)
    rwa [Nat.mod_add_mod, Nat.add_assoc, Nat.add_sub_cancel' from'] at this
  · intro h m' lt
    rw [Nat.mod_add_mod, Nat.add_assoc]
    exact h _ (by omega) (by omega)

/-- A maximal run of `length` spans not in R, from position a: a position d spans east of a is joined to one i spans east of a, in
the run, exactly when it lies in the run itself. -/
theorem joined_iff_offset_le {a length i d : Nat} (isOpen : OpenEast n restored a length)
    (last : restored.getLsbD ((a + length) % n) = true) (first : restored.getLsbD ((a + (n - 1)) % n) = true)
    (within : i ≤ length) (short : length < n) (ld : d < n) :
    d ≤ length ↔ JoinedEast n restored ((a + i) % n) ((a + d) % n) ∨ JoinedEast n restored ((a + d) % n) ((a + i) % n) := by
  constructor
  · intro inside
    rcases Nat.le_total i d with le | le
    · refine .inl ⟨d - i, by omega, ?_, openEast_shift.2 fun k _ lt => isOpen k (by omega)⟩
      rw [Nat.mod_add_mod, Nat.add_assoc, Nat.add_sub_cancel' le]
    · refine .inr ⟨i - d, by omega, ?_, openEast_shift.2 fun k _ lt => isOpen k (by omega)⟩
      rw [Nat.mod_add_mod, Nat.add_assoc, Nat.add_sub_cancel' le]
  · rintro (⟨j, lj, reach, run⟩ | ⟨j, lj, reach, run⟩)
    all_goals
      rw [Nat.mod_add_mod, Nat.add_assoc] at reach
      rw [openEast_shift] at run
    · have stays : i + j ≤ length := by
        by_contra beyond
        exact absurd (run length within (by omega)) (by rw [last]; nofun)
      have := offset_eq (by omega) ld reach
      omega
    · by_contra outside
      have around : n ≤ d + j := by
        by_contra less
        have := offset_eq (by omega) (by omega) reach
        omega
      exact absurd (run (n - 1) (by omega) (by omega)) (by rw [first]; nofun)

theorem openEast_append {a i j : Nat} (west : OpenEast n restored a i) (east : OpenEast n restored ((a + i) % n) j) :
    OpenEast n restored a (i + j) := by
  intro k lt
  rcases Nat.lt_or_ge k i with less | ge
  · exact west k less
  · exact openEast_shift.1 east k ge lt

/-- A run of spans not in R ends before it has gone round the ring, where some span is in R. -/
theorem OpenEast.lt {p k m : Nat} (run : OpenEast n restored p m) (lp : p < n) (lk : k < n)
    (cut : restored.getLsbD k = true) : m < n := by
  by_contra round
  obtain ⟨d, ld, rfl, -⟩ := exists_offset lp lk
  exact absurd (run d (by omega)) (by rw [cut]; nofun)

/-- With a span below n in R, the own segment holds q exactly when q is joined to p. -/
theorem ownSegment_holds_iff {p q k : Nat} (lp : p < n) (lq : q < n) (lk : k < n) (cut : restored.getLsbD k = true) :
    (q + n - (ownSegment n restored p).1) % n ≤ ((ownSegment n restored p).2 + n - (ownSegment n restored p).1) % n ↔
      JoinedEast n restored p q ∨ JoinedEast n restored q p := by
  have some : restored ≠ 0#32 := by
    rintro rfl
    simp at cut
  unfold ownSegment
  rw [if_neg some]
  dsimp only
  obtain ⟨i, -, la, back, west, first⟩ := segmentFirst_spec (restored := restored) n lp
  obtain ⟨j, -, ends, east, last⟩ := segmentLast_spec (restored := restored) n lp
  rw [ends]
  generalize segmentFirst n restored n p = a at *
  have last := last (east.lt lp lk cut)
  have first := first (west.lt la lk cut)
  rw [← back] at east last
  have run := openEast_append west east
  have short := run.lt la lk cut
  have across : (p + j) % n = (a + (i + j)) % n := by rw [← back, Nat.mod_add_mod, Nat.add_assoc]
  rw [Nat.mod_add_mod, Nat.add_assoc] at last
  obtain ⟨e, le, ends, far⟩ := exists_offset (q := (p + j) % n) la (Nat.mod_lt _ (by omega))
  obtain ⟨d, ld, at', near⟩ := exists_offset la lq
  rw [near, far, offset_eq le short (ends.symm.trans across), joined_iff_offset_le run last first (Nat.le_add_right i j) short ld,
    back, ← at']

/-- With R empty the own segment holds every position, and every position is joined to p. -/
theorem ownSegment_empty_holds {p q : Nat} (lp : p < n) (lq : q < n) :
    (q + n - (ownSegment n 0#32 p).1) % n ≤ ((ownSegment n 0#32 p).2 + n - (ownSegment n 0#32 p).1) % n ∧
      JoinedEast n 0#32 p q := by
  obtain ⟨d, ld, at', -⟩ := exists_offset lp lq
  refine ⟨?_, d, ld, at'.symm, fun _ _ => BitVec.getLsbD_zero⟩
  show (q + n - 0) % n ≤ (n - 1 + n - 0) % n
  rw [Nat.sub_zero, Nat.sub_zero, Nat.add_mod_right, Nat.add_mod_right, Nat.mod_eq_of_lt lq, Nat.mod_eq_of_lt (by omega)]
  omega

end

/-! ### The own segment of a JOINED part (R104, R145) -/

/-- In a map that passes the tests of JOIN, a position below N is the one of its node ID (R145). -/
theorem positionOf_idAt {m : RingMap} (complete : m.complete = true) {q : Fin 32} (below : q.val < m.n) {id : Fin 63}
    (holds : m.ids[q] = some id) : m.positionOf id.val = some q.val := by
  obtain ⟨⟨-, size⟩, -, distinct⟩ := (complete_iff m).1 complete
  obtain ⟨r, found⟩ := Option.isSome_iff_exists.1
    ((positionOf_isSome_iff m id.val).2 ⟨q.val, below, id, (idAt_fin m q).trans holds, rfl⟩)
  obtain ⟨lt, named⟩ := positionOf_some found
  obtain ⟨id', at', same⟩ := Option.map_eq_some_iff.1 named
  have place : (⟨r, by omega⟩ : Fin 32) = q :=
    distinct _ _ lt below (by rw [holds, ← Fin.ext same, ← at']; exact (idAt_fin m ⟨r, by omega⟩).symm)
  rw [found, ← place]

/-- R holds spans below N alone. -/
theorem lt_of_chooseRestored {s : State} {k : Fin 32} (cut : s.chooseRestored.getLsbD k = true) : k.val < s.ringMap.n :=
  ((getLsbD_chooseRestored s k).1 cut).1

/-- Settles O56: with R empty every position is joined to every other, and else the segment's two ends are where the runs west and
east of the own position stop. -/
theorem ownSegmentIsTheRunRoundTheNode : Obligations.OwnSegmentIsTheRunRoundTheNode := by
  intro s p q id sound joined position below holds
  have lp := (sound.identity.ring joined).2 p position
  have own : s.inOwnSegment id = true ↔
      (q.val + s.ringMap.n - (ownSegment s.ringMap.n s.chooseRestored p).1) % s.ringMap.n ≤
        ((ownSegment s.ringMap.n s.chooseRestored p).2 + s.ringMap.n -
          (ownSegment s.ringMap.n s.chooseRestored p).1) % s.ringMap.n := by
    unfold State.inOwnSegment
    rw [resolver_joined sound joined position, positionOf_idAt (sound.identity.complete joined) below holds]
    exact decide_eq_true_iff
  have restored : s.resolver.restored = s.chooseRestored := by rw [resolver_joined sound joined position]
  rw [own, restored]
  by_cases empty : s.chooseRestored = 0#32
  · obtain ⟨inside, reached⟩ := ownSegment_empty_holds lp below
    rw [empty]
    exact iff_of_true inside (.inl reached)
  · obtain ⟨k, cut⟩ := (exists_getLsbD_of_ne_zero _).1 empty
    exact ownSegment_holds_iff lp below (lt_of_chooseRestored cut) cut

end Sys2Proof.Machine

/-! PROOFS. Announcements that drop no MANUAL command, and the WTR expiry (O31). -/

namespace Sys2Proof.Machine

/-! ### The announced condition (R98) -/

theorem ConditionSide.highest_code (c : ConditionSide) (park : Bool) :
    (c.highest park).code = max (max c.detected.condition.code c.command.condition.code) (if park then 6 else 0) := by
  unfold ConditionSide.highest
  rw [Condition.code_higher, Condition.code_higher]
  cases park <;> rfl

/-- While no PARK command stands, the detected condition and the side command make the announced condition. -/
theorem ConditionSide.highest_false (c : ConditionSide) : c.highest false = c.detected.condition.higher c.command.condition := by
  apply Condition.code_injective
  rw [ConditionSide.highest_code, Condition.code_higher]
  exact Nat.max_zero _

theorem ConditionSide.highest_true (c : ConditionSide) : c.highest true = .park := by
  have detected : c.detected.condition.code ≤ 6 := Nat.le_of_lt_succ (Condition.code_lt _)
  have command : c.command.condition.code ≤ 6 := Nat.le_of_lt_succ (Condition.code_lt _)
  apply Condition.code_injective
  rw [ConditionSide.highest_code]
  exact Nat.max_eq_right (Nat.max_le.2 ⟨detected, command⟩)

theorem formAnnounced_condition (s : State) (x : Side) :
    (formAnnounced s).condition.get x = { s.condition.get x with announced := (s.condition.get x).highest s.park } := by
  cases x <;> rfl

theorem formAnnounced_own (s : State) (x : Side) :
    (formAnnounced s).signalling.own.get x =
      { s.signalling.own.get x with condition := (s.condition.get x).highest s.park } := by
  cases x <;> rfl

/-! ### The own entries in the table (R62) -/

/-- An own entry as the table of a JOINED part shows it. -/
def OwnEntry.entry (o : OwnEntry) : Entry :=
  ⟨o.condition, o.action, o.edition, some .own⟩

theorem entry_own {s : State} {p : Fin 32} (joined : s.joined = true) (position : s.identity.position = some p) (x : Side) :
    s.entry p.val x = (s.signalling.own.get x).entry := by
  unfold State.entry
  rw [joined, position]
  exact if_pos (by simp)

/-- A learned entry that passes a test in t passes it in s, where the remote entries are the same and the own entries pass it in
t only if they do in s. -/
theorem anyLearned_of_own {s t : State} {test : Entry → Bool} (identity : t.identity = s.identity)
    (rct : t.signalling.rct = s.signalling.rct)
    (own : ∀ x, test (t.signalling.own.get x).entry = true → test (s.signalling.own.get x).entry = true)
    (found : t.anyLearned test = true) : s.anyLearned test = true := by
  obtain ⟨p, x, learned, passes⟩ := (anyLearned_iff t test).1 found
  refine (anyLearned_iff s test).2 ⟨p, x, ?_⟩
  unfold State.entry State.joined at *
  rw [identity, rct] at learned passes
  split
  next at' =>
    rw [if_pos at'] at passes
    exact ⟨rfl, own x passes⟩
  next away =>
    rw [if_neg away] at learned passes
    exact ⟨learned, passes⟩

/-- An own entry of a JOINED part that passes a test is a learned entry that does. -/
theorem anyLearned_own {s : State} {p : Fin 32} {test : Entry → Bool} (joined : s.joined = true)
    (position : s.identity.position = some p) (x : Side) (passes : test (s.signalling.own.get x).entry = true) :
    s.anyLearned test = true :=
  (anyLearned_iff s test).2 ⟨p, x, by rw [entry_own joined position x]; exact ⟨rfl, passes⟩⟩

/-! ### An announcement without a drop (R96, R98) -/

/-- A table-change notice that finds no MANUAL to drop leaves the Condition Unit and the pulse events alone. -/
theorem tableNotice_undropped {s : State} (h : Announced s) (joined : s.joined = true) (manual : ManualDropped s) :
    (tableNotice s).condition = s.condition ∧ (tableNotice s).events = s.events := by
  have first : noticePass s = s.notified := by rw [noticePass_eq_notified h.toConsistent joined, manual.dropManual_eq]
  unfold tableNotice
  dsimp only
  rw [first]
  split
  · exact ⟨rfl, rfl⟩
  · rw [noticePass_eq_notified (h.notified joined).toConsistent joined, (notified_manualDropped manual).dropManual_eq]
    exact ⟨rfl, rfl⟩

theorem announce_undropped {s : State} (h : Consistent s) (manual : ManualDropped (formAnnounced s)) :
    (announce s).condition = (formAnnounced s).condition ∧ (announce s).events = s.events := by
  rw [announce_eq_noticed]
  unfold noticed
  split
  next due => exact tableNotice_undropped h.formAnnounced (Bool.and_eq_true _ _ ▸ due).1 manual
  next => exact ⟨rfl, rfl⟩

/-- Where a change brings no side to FADE or higher, its announcement finds no MANUAL to drop that a notice before it has not
dropped (R96). -/
theorem formAnnounced_manualDropped {s u : State} (h : Announced s) (identity : u.identity = s.identity)
    (rct : u.signalling.rct = s.signalling.rct)
    (calm : ∀ x, Condition.fade.code ≤ ((u.condition.get x).highest u.park).code →
      Condition.fade.code ≤ ((s.condition.get x).highest s.park).code)
    (manual : s.learnedTrouble = true → ∀ x, (u.condition.get x).command ≠ .manual) : ManualDropped (formAnnounced u) := by
  intro trouble x
  rw [formAnnounced_condition]
  refine manual (anyLearned_of_own (s := s) (t := formAnnounced u) identity rct (fun y => ?_) trouble) x
  simp only [OwnEntry.entry, decide_eq_true_eq, formAnnounced_own, h.ownCondition, h.announced]
  exact calm y

section
variable {s : State} {x : Side} {f : ConditionSide → ConditionSide}

/-- A change of one side announced without a drop forms that side's condition alone, and raises no pulse. -/
theorem announce_update_undropped (sound : RestorationSound s)
    (wtr : (f (s.condition.get x)).wtr.isSome ↔ (f (s.condition.get x)).detected = .hold)
    (alone : s.joined = false → (f (s.condition.get x)).command = .none)
    (calm : Condition.fade.code ≤ ((f (s.condition.get x)).highest s.park).code →
      Condition.fade.code ≤ ((s.condition.get x).highest s.park).code)
    (manual : s.learnedTrouble = true → (f (s.condition.get x)).command ≠ .manual) :
    (announce (s.updateCondition x f)).condition = s.condition.set x
        { f (s.condition.get x) with announced := (f (s.condition.get x)).highest s.park } ∧
      (announce (s.updateCondition x f)).events = s.events := by
  obtain ⟨announced, settled⟩ := (restorationSound_iff s).1 sound
  have changed (y : Side) : (s.updateCondition x f).condition.get y =
      if y = x then f (s.condition.get x) else s.condition.get y := Sides.get_set _ _ _ _
  have dropped : ManualDropped (formAnnounced (s.updateCondition x f)) := by
    refine formAnnounced_manualDropped announced rfl rfl (fun y => ?_) fun trouble y => ?_
    all_goals
      rw [changed]
      split
    next same => exact same ▸ calm
    next => exact id
    next => exact manual trouble
    next => exact settled.manual trouble y
  obtain ⟨condition, events⟩ := announce_undropped (announced.updateCondition x wtr alone) dropped
  refine ⟨condition.trans (Sides.ext_get fun y => ?_), events⟩
  rw [formAnnounced_condition, changed, Sides.get_set]
  split
  · rfl
  · exact congrArg (ConditionSide.mk _ _ _) (announced.announced y).symm

end

/-! ### The WTR expiry (R90) -/

theorem exec_wtrExpiry_idle {s : State} {x : Side} (h : (s.condition.get x).wtr ≠ some 0) :
    exec (.wtrExpiry x) s = .next s :=
  congrArg _ ((takeWtrExpiry_cases x s).resolve_right fun ⟨_, due, _⟩ => h due)

theorem exec_wtrExpiry_due {s : State} {x : Side} (high : s.resetN = true) (sound : RestorationSound s)
    (h : (s.condition.get x).wtr = some 0) : exec (.wtrExpiry x) s = .next (event (wtrExpires x) s) := by
  have held : (s.condition.get x).detected = .hold := (sound.condition x).wtr.1 (by rw [h]; rfl)
  have due : timerDue (s.condition.get x).wtr = true := (timerDue_iff _).2 h
  show Host.Outcome.next (takeWtrExpiry x s) = _
  unfold takeWtrExpiry
  rw [if_pos]
  simp [high, due, held]

/-- An IDLE side announces its command, or PARK (R98). -/
theorem ConditionSide.highest_idle {c : ConditionSide} (idle : c.detected = .idle) (park : Bool) :
    c.highest park =
      if park then .park
      else match c.command with
        | .force => .force
        | .manual => .manual
        | .none => .idle := by
  cases park with
  | true => exact c.highest_true
  | false =>
    rw [ConditionSide.highest_false, idle]
    cases c.command <;> rfl

/-- The end of the wait lowers the side, and its command stays (R90, R98). -/
theorem wtrExpires_undropped {s : State} (sound : RestorationSound s) (x : Side) :
    (wtrExpires x s).condition = s.condition.set x
        { (s.condition.get x).become .idle with announced := ((s.condition.get x).become .idle).highest s.park } ∧
      (wtrExpires x s).events = s.events := by
  refine announce_update_undropped sound ⟨nofun, nofun⟩ (fun alone => ((sound.condition x).commands alone).1) ?_
    fun trouble => sound.manual trouble x
  rw [ConditionSide.highest_code, ConditionSide.highest_code]
  exact fun fade => fade.trans (max_le_max_right _ (max_le_max_right _ (Nat.zero_le _)))

theorem wtrExpires_frame (x : Side) (s : State) : RestorationFrame s (wtrExpires x s) :=
  (updateCondition_frame s x _).trans (announce_frame _)

/-- Settles O31: the expiry lowers one side, so its announcement drops no MANUAL command. -/
theorem wtrExpiryEndsHold : Obligations.WtrExpiryEndsHold := by
  intro s x high events sound
  refine ⟨exec_wtrExpiry_idle, fun due => ⟨_, exec_wtrExpiry_due high sound due, ?_⟩⟩
  obtain ⟨condition, quiet⟩ := wtrExpires_undropped sound x
  have frame := wtrExpires_frame x s
  have transmit : (wtrExpires x s).transmit = s.transmit := by rw [frame]
  have reported := event_reported (wtrExpires x) s (by rw [quiet]) (by rw [quiet])
    (by rw [quiet]; exact ⟨rfl, rfl, rfl, rfl⟩) (by rw [quiet]) (by rw [quiet])
  rw [quiet, transmit, events.pulses] at reported
  refine ⟨?_, reported, ?_⟩
  · rw [event_frame, condition, ConditionSide.highest_idle rfl]
    rfl
  · conv_lhs => rw [event_frame, frame]
    rw [event_frame]

end Sys2Proof.Machine

/-! PROOFS. The turn of a command that ends in an announcement: CLEAR (O47), PARK and CLEAR-PARK (O46). -/

namespace Sys2Proof.Machine

/-! ### The turn of a command that ends in an announcement (R63, R98, R157) -/

section
variable {s v : State} {q : Port} {c : Cell} {park : Bool}

/-- The turn of an accepted command whose effect leaves v. -/
def commandTurn (s v : State) (q : Port) (c : Cell) : State :=
  event (fun _ => respond q c .done [] v) s

/-- The answer and the end of the turn leave the Condition Unit, the Resolver and the engines alone. -/
theorem commandTurn_eq (s v : State) (q : Port) (c : Cell) :
    commandTurn s v q c = { v with
      signalling := { v.signalling with own := (commandTurn s v q c).signalling.own }
      transmit := (commandTurn s v q c).transmit, events := (commandTurn s v q c).events
      alertN := (commandTurn s v q c).alertN } :=
  answer_frame s v q c .done []

theorem commandTurn_kept (s v : State) (q : Port) (c : Cell) :
    (commandTurn s v q c).condition = v.condition ∧ (commandTurn s v q c).resolver = v.resolver ∧
      (commandTurn s v q c).engine = v.engine := by
  rw [commandTurn_eq]
  exact ⟨rfl, rfl, rfl⟩

theorem takeRequest_setPark (q : Port) (s : State) (park : Bool) :
    (takeRequest q s).setPark park = { s with
      park := park, requests := s.requestsTaken q, pointer := nextPort q, transmit := (takeRequest q s).transmit } := rfl

/-- What the effect of such a command leaves, register by register. -/
theorem command_frame (frame : RestorationFrame ((takeRequest q s).setPark park) v) :
    v = { s with
      park := park, condition := v.condition, signalling := { s.signalling with own := v.signalling.own },
      resolver := v.resolver, engine := v.engine, requests := s.requestsTaken q, pointer := nextPort q,
      transmit := (takeRequest q s).transmit, events := { s.events with pulses := v.events.pulses } } := by
  rw [takeRequest_setPark] at frame
  exact frame

/-- Such a turn is reported with the pulses of its work (R166 to R172). -/
theorem commandTurn_reported (frame : RestorationFrame ((takeRequest q s).setPark park) v) :
    Reported s.events v.events.pulses (s.transmitWith q (s.response q c .done [])) (commandTurn s v q c) := by
  have work := command_frame frame
  have events : (respond q c .done [] v).events = { s.events with pulses := v.events.pulses } :=
    congrArg State.events work
  have transmit : (respond q c .done [] v).transmit = s.transmitWith q (s.response q c .done []) :=
    respond_transmit (by rw [work]) (by rw [work]) (by rw [work]) c .done []
  have reported := event_reported (fun _ => respond q c .done [] v) s (by rw [events]) (by rw [events])
    (by rw [events]; exact ⟨rfl, rfl, rfl, rfl⟩) (by rw [events]) (by rw [events])
  rw [transmit, events] at reported
  exact reported

/-- Besides the answer and the PARK value, such a turn moves what an announcement can, the Event Unit and ALERT_N. -/
theorem commandTurn_frame (frame : RestorationFrame ((takeRequest q s).setPark park) v) :
    let t := commandTurn s v q c
    t = { s with
      park := park, condition := t.condition, signalling := { s.signalling with own := t.signalling.own },
      resolver := t.resolver, engine := t.engine, requests := s.requestsTaken q, pointer := nextPort q,
      transmit := t.transmit, events := t.events, alertN := t.alertN } := by
  have turned := commandTurn_eq s v q c
  obtain ⟨condition, resolver, engine⟩ := commandTurn_kept s v q c
  dsimp only
  generalize commandTurn s v q c = t at *
  rw [condition, resolver, engine]
  refine turned.trans ?_
  rw [command_frame frame]

theorem commandTurn_sound (sound : RestorationSound v) : RestorationSound (commandTurn s v q c) :=
  event_sound ((respond_aside q c .done [] v).kept.sound sound)

end

theorem takeRequest_sound {s : State} (q : Port) (sound : RestorationSound s) : RestorationSound (takeRequest q s) :=
  (takeRequest_aside q s).kept.sound sound

/-! ### CLEAR (R95) -/

/-- A side after CLEAR: no command, and no HOLD (R95). -/
theorem ConditionSide.clearCommand_eq {c : ConditionSide} (h : c.wtr.isSome ↔ c.detected = .hold) :
    c.clearCommand = ⟨if c.detected = .hold then .idle else c.detected, none, .none, c.announced⟩ := by
  unfold ConditionSide.clearCommand
  dsimp only
  split
  · rfl
  next other =>
    have stopped : c.wtr = none := by simpa using mt h.1 other
    rw [← stopped]

/-- A side with no command announces its detected condition, or PARK (R98). -/
theorem ConditionSide.highest_of_none {c : ConditionSide} (h : c.command = .none) (park : Bool) :
    c.highest park = if park then .park else c.detected.condition := by
  cases park with
  | true => exact c.highest_true
  | false => exact ConditionSide.highest_uncommanded h

theorem clearSide_undropped {s : State} (sound : RestorationSound s) (x : Side) :
    let c := s.condition.get x
    let d := if c.detected = .hold then Detected.idle else c.detected
    (clearSide x s).condition = s.condition.set x ⟨d, none, .none, if s.park then .park else d.condition⟩ ∧
      (clearSide x s).events = s.events := by
  have cleared := ConditionSide.clearCommand_eq (sound.condition x).wtr
  have undropped := announce_update_undropped (f := ConditionSide.clearCommand) (x := x) sound ?_ (fun _ => by rw [cleared]) ?_
    (fun _ => by rw [cleared]; nofun)
  · rw [cleared, ConditionSide.highest_of_none (c := ⟨_, none, .none, _⟩) rfl] at undropped
    exact undropped
  · rw [cleared]
    dsimp only
    split
    · exact ⟨nofun, nofun⟩
    next other => exact ⟨nofun, fun held => absurd held other⟩
  · rw [cleared, ConditionSide.highest_code, ConditionSide.highest_code]
    refine fun fade => fade.trans (max_le_max_right _ ?_)
    dsimp only
    split
    · exact Nat.zero_le _
    · exact max_le_max_left _ (Nat.zero_le _)

/-- The CLEAR command of a side. -/
def clearCode : Side → CommandCode
  | .east => .clearEast
  | .west => .clearWest

theorem exec_clear {s : State} {x : Side} {q : Port} {c : Cell} (straps : BitVec 6)
    (takes : TurnTakes s (.command (clearCode x)) q c) (joined : s.joined = true) :
    exec ((Request.command (clearCode x)).row straps) s =
      .next (commandTurn s (clearSide x (takeRequest q s)) q c) := by
  cases x <;> exact congrArg _ (turn_accepted (accepted := State.joined) takes joined)

/-- Settles O47: CLEAR lowers one side, so its announcement drops no MANUAL command. -/
theorem clearTakesEffect : Obligations.ClearTakesEffect := by
  intro s x q c straps k d sound events takes joined
  have code : k = clearCode x := by cases x <;> rfl
  rw [code] at takes ⊢
  have kept := takeRequest_sound q sound
  obtain ⟨condition, quiet⟩ := clearSide_undropped kept x
  have cleared := (clearSide_kept x (takeRequest q s)).sound kept
  have frame : RestorationFrame ((takeRequest q s).setPark s.park) (clearSide x (takeRequest q s)) :=
    (updateCondition_frame _ x _).trans (announce_frame _)
  have pulses : (clearSide x (takeRequest q s)).events.pulses = 0#32 := by
    rw [quiet]
    exact events.pulses
  refine ⟨_, exec_clear straps takes joined, ?_, ?_, pulses ▸ commandTurn_reported frame, commandTurn_frame frame⟩
  · rw [(commandTurn_kept _ _ _ _).1, condition]
    rfl
  · exact ((commandTurn_sound cleared).condition x).ownCondition

/-! ### PARK and CLEAR-PARK (R94) -/

/-- A command changed by an announcement is a MANUAL dropped (R96). -/
theorem ManualFollows.command {s t : State} (h : ManualFollows s t) (y : Side) :
    (t.condition.get y).command = (s.condition.get y).command ∨
      (s.condition.get y).command = .manual ∧ (t.condition.get y).command = .none := by
  rcases h with ⟨same, -⟩ | ⟨-, dropped, -⟩
  · exact .inl (same y)
  · rw [dropped]
    split
    next manual => exact .inr ⟨manual, rfl⟩
    next => exact .inl rfl

/-- Where the detection is kept, a side's command and announced condition alone have moved. -/
theorem DetectionKept.side {s t : State} (h : DetectionKept s t) (x : Side) :
    t.condition.get x =
      { s.condition.get x with command := (t.condition.get x).command, announced := (t.condition.get x).announced } := by
  dsimp only
  rw [← h.detected, ← h.wtr]

/-- What an announcement leaves of a side: the announced condition formed of the detected condition and what is left of the
command. -/
theorem announce_condition {u : State} (h : Consistent u) (x : Side) :
    (announce u).condition.get x =
      let c := { u.condition.get x with command := ((announce u).condition.get x).command }
      { c with announced := c.highest u.park } := by
  have kept := announce_detectionKept u
  have park : (announce u).park = u.park := by rw [announce_frame u]
  have announced := (announce_announced h).announced x
  refine (kept.side x).trans (congrArg (ConditionSide.mk _ _ _) (announced.trans ?_))
  unfold ConditionSide.highest
  rw [kept.detected, park]

theorem Consistent.setPark {s : State} (h : Consistent s) (joined : s.joined = true) (v : Bool) : Consistent (s.setPark v) :=
  ⟨⟨h.identity.standalone, h.identity.complete, h.identity.position⟩,
    ⟨h.rct.unlearned, h.rct.remote, h.rct.standalone, h.rct.inert⟩, h.wtr,
    fun alone => absurd (joined.symm.trans alone) nofun, h.ownAction, h.follows, h.standalone⟩

section
variable {s : State}

/-- The own entries of a part with the PARK command announce PARK (R62, R98). -/
theorem own_of_park (sound : RestorationSound s) (park : s.park = true) (x : Side) :
    (s.signalling.own.get x).condition = .park := by
  rw [(sound.condition x).ownCondition, (sound.condition x).announced, park]
  exact ConditionSide.highest_true _

/-- The MANUAL commands through PARK, which drops them, and CLEAR-PARK, which finds none to drop (R94, R96). -/
theorem setParkCommand_command (sound : RestorationSound s) (joined : s.joined = true) (v : Bool) (x : Side) :
    ((setParkCommand v s).condition.get x).command =
      if v = true ∧ (s.condition.get x).command = .manual then .none else (s.condition.get x).command := by
  obtain ⟨announced, settled⟩ := (restorationSound_iff s).1 sound
  have consistent := announced.toConsistent.setPark joined v
  cases v with
  | false =>
    have dropped : ManualDropped (formAnnounced (s.setPark false)) := by
      refine formAnnounced_manualDropped announced rfl rfl (fun y fade => ?_) settled.manual
      refine fade.trans ?_
      rw [ConditionSide.highest_code, ConditionSide.highest_code]
      exact max_le_max_left _ (Nat.zero_le _)
    rw [if_neg nofun]
    unfold setParkCommand
    rw [(announce_undropped consistent dropped).1, formAnnounced_condition]
    rfl
  | true =>
    have parked := (setParkCommand_kept true joined).sound sound
    have frame : RestorationFrame (s.setPark true) (setParkCommand true s) := announce_frame _
    have joined' : (setParkCommand true s).joined = true := by
      rw [State.joined, frame]
      exact joined
    obtain ⟨p, position, -⟩ := parked.identity.position joined'
    have own := own_of_park parked (by rw [frame]; rfl) .east
    have trouble : (setParkCommand true s).learnedTrouble = true :=
      anyLearned_own joined' position .east (by rw [OwnEntry.entry, own]; rfl)
    have gone := parked.manual trouble x
    rcases (announce_detectionKept (s.setPark true)).manual.command x with same | ⟨manual, none⟩
    · have same : ((setParkCommand true s).condition.get x).command = (s.condition.get x).command := same
      rw [if_neg fun h => gone (same.trans h.2), same]
    · exact none.trans (if_pos ⟨rfl, manual⟩).symm

/-- The sides after PARK and CLEAR-PARK (R94, R98). -/
theorem setParkCommand_condition (sound : RestorationSound s) (joined : s.joined = true) (v : Bool) (x : Side) :
    (setParkCommand v s).condition.get x =
      let d := s.condition.get x
      { d with
        command := if v = true ∧ d.command = .manual then .none else d.command
        announced := if v then .park else d.detected.condition.higher d.command.condition } := by
  have formed : (setParkCommand v s).condition.get x = _ :=
    announce_condition (((restorationSound_iff s).1 sound).1.toConsistent.setPark joined v) x
  have command : ((announce (s.setPark v)).condition.get x).command = _ := setParkCommand_command sound joined v x
  rw [formed, command, State.setPark_condition, State.setPark_park]
  cases v with
  | true => exact congrArg (ConditionSide.mk _ _ _) (ConditionSide.highest_true _)
  | false =>
    rw [if_neg nofun]
    exact congrArg (ConditionSide.mk _ _ _) (ConditionSide.highest_false _)

/-- COMMAND-DROPPED reads the commands alone. -/
theorem commandDropped_congr {s s' t t' : State} {sides : List Side} (before : s'.condition = s.condition)
    (after : t'.condition = t.condition) : commandDropped sides s' t' = commandDropped sides s t := by
  unfold commandDropped
  rw [before, after]

theorem setParkCommand_pulses (quiet : s.events.pulses = 0#32) (v : Bool) :
    (setParkCommand v s).events.pulses = commandDropped [.east, .west] s (setParkCommand v s) := by
  have pulses := (announce_detectionKept (s.setPark v)).manual.pulses quiet
  rw [commandDropped_congr (State.setPark_condition s v) rfl] at pulses
  exact pulses

/-- A learned PARK empties R (R102). -/
theorem restored_of_park (sound : RestorationSound s) (joined : s.joined = true) (park : s.learnedPark = true) :
    s.resolver.restored = 0#32 ∧ s.resolver.target = ⟨false, false⟩ := by
  have empty : s.chooseRestored = 0#32 := if_pos park
  obtain ⟨p, position, -⟩ := sound.identity.position joined
  rw [resolver_joined sound joined position, empty]
  exact ⟨rfl, congrArg₂ Sides.mk BitVec.getLsbD_zero BitVec.getLsbD_zero⟩

end

theorem exec_park {s : State} {v : Bool} {q : Port} {c : Cell} (straps : BitVec 6)
    (takes : TurnTakes s (.command (if v then .park else .clearPark)) q c) (joined : s.joined = true) :
    exec ((Request.command (if v then .park else .clearPark)).row straps) s =
      .next (commandTurn s (setParkCommand v (takeRequest q s)) q c) := by
  cases v <;> exact congrArg _ (turn_accepted (accepted := State.joined) takes joined)

/-- Settles O46: with PARK both own entries are learned entries above FADE, and without it none is higher than it was. -/
theorem parkTakesEffect : Obligations.ParkTakesEffect := by
  intro s v q c straps k sound events takes joined
  have kept := takeRequest_sound q sound
  have parked := (setParkCommand_kept (s := takeRequest q s) v joined).sound kept
  have frame : RestorationFrame ((takeRequest q s).setPark v) (setParkCommand v (takeRequest q s)) := announce_frame _
  have formed := setParkCommand_condition kept joined v
  have pulses := setParkCommand_pulses (s := takeRequest q s) events.pulses v
  have ran := exec_park straps takes joined
  have reported := commandTurn_reported (c := c) frame
  have turned := commandTurn_frame (c := c) frame
  have sound' := commandTurn_sound (s := s) (q := q) (c := c) parked
  have condition := (commandTurn_kept s (setParkCommand v (takeRequest q s)) q c).1
  rw [pulses, commandDropped_congr (s := s) (s' := takeRequest q s) rfl condition.symm] at reported
  rw [← condition] at formed
  generalize commandTurn s (setParkCommand v (takeRequest q s)) q c = t at *
  have park : t.park = v := congrArg State.park turned
  refine ⟨t, ran, park, fun x => ⟨formed x, (sound'.condition x).ownCondition⟩, fun set => ?_, reported, ?_⟩
  · have joined' : t.joined = true := by
      rw [State.joined, turned]
      exact joined
    obtain ⟨p, position, -⟩ := sound'.identity.position joined'
    refine restored_of_park sound' joined' (anyLearned_own joined' position .east ?_)
    rw [OwnEntry.entry, own_of_park sound' (park.trans set)]
    rfl
  · rw [park]
    exact turned

end Sys2Proof.Machine

/-! PROOFS. FORCE and MANUAL (O45). -/

namespace Sys2Proof.Machine

/-! ### Where a FORCE or a MANUAL is accepted (R93) -/

/-- FORCE or MANUAL as a side command, and as the condition it announces. -/
def setValue (force : Bool) : SideCommand := if force then .force else .manual

/-- FORCE or MANUAL of a side as a command of the Agent. -/
def setCode (force : Bool) (x : Side) : CommandCode :=
  match force, x with
  | true, .east => .forceEast
  | true, .west => .forceWest
  | false, .east => .manualEast
  | false, .west => .manualWest

section
variable {s : State}

theorem learnedTrouble_of_park (park : s.learnedPark = true) : s.learnedTrouble = true := by
  obtain ⟨p, x, learned, parked⟩ := (learnedPark_iff s).1 park
  exact (anyLearned_iff s _).2 ⟨p, x, learned, by rw [parked]; rfl⟩

/-- An accepted FORCE or MANUAL finds no learned PARK, and a MANUAL no learned FADE or higher (R93). -/
theorem setAccepted {force : Bool} {x : Side} (h : Accepted s (setCode force x)) :
    s.joined = true ∧ s.learnedPark = false ∧ (force = false → s.learnedTrouble = false) := by
  cases force with
  | true =>
    have accepted : forceAccepted s = true := (forceAccepted_iff s).2 (by cases x <;> exact h)
    obtain ⟨joined, unparked⟩ := (Bool.and_eq_true _ _).mp accepted
    exact ⟨joined, (Bool.not_eq_true' _).mp unparked, nofun⟩
  | false =>
    have accepted : manualAccepted s = true := (manualAccepted_iff s).2 (by cases x <;> exact h)
    obtain ⟨joined, calm⟩ := (Bool.and_eq_true _ _).mp accepted
    have calm := (Bool.not_eq_true' _).mp calm
    exact ⟨joined, eq_false_of_ne_true fun park => absurd (learnedTrouble_of_park park) (by rw [calm]; nofun), fun _ => calm⟩

/-- No PARK command stands where no learned entry has PARK (R62, R94). -/
theorem park_of_unlearned (sound : RestorationSound s) (joined : s.joined = true) (unparked : s.learnedPark = false) :
    s.park = false := by
  obtain ⟨p, position, -⟩ := sound.identity.position joined
  refine eq_false_of_ne_true fun park => ?_
  have learned : s.learnedPark = true :=
    anyLearned_own joined position .east (by rw [OwnEntry.entry, own_of_park sound park]; rfl)
  rw [unparked] at learned
  contradiction

/-- Where no learned entry is FADE or higher, a side's detected condition is below FADE (R62, R98). -/
theorem detected_of_calm (sound : RestorationSound s) (joined : s.joined = true) (calm : s.learnedTrouble = false) (x : Side) :
    (s.condition.get x).detected.condition.code < Condition.fade.code := by
  obtain ⟨p, position, -⟩ := sound.identity.position joined
  by_contra fade
  have own : (s.signalling.own.get x).condition = (s.condition.get x).highest s.park := by
    rw [(sound.condition x).ownCondition, (sound.condition x).announced]
  have learned : s.learnedTrouble = true := by
    refine anyLearned_own joined position x (decide_eq_true ?_)
    show _ ≤ (s.signalling.own.get x).condition.code
    rw [own, ConditionSide.highest_code]
    omega
  rw [calm] at learned
  contradiction

/-! ### The side after FORCE or MANUAL (R92, R98) -/

/-- A FORCE is never dropped, and a MANUAL not where it is accepted (R93, R96). -/
theorem setCommand_command {force : Bool} {x : Side} (sound : RestorationSound s) (joined : s.joined = true)
    (calm : force = false → s.learnedTrouble = false) :
    ((setCommand x (setValue force) s).condition.get x).command = setValue force := by
  have set (k : SideCommand) : ((s.updateCondition x fun c => { c with command := k }).condition.get x).command = k :=
    congrArg ConditionSide.command (Sides.get_update_self _ _ _)
  cases force with
  | true =>
    have follows := (announce_detectionKept (s.updateCondition x fun c => { c with command := .force })).manual.command x
    rw [set] at follows
    exact follows.resolve_right fun dropped => nomatch dropped.1
  | false =>
    have calm := calm rfl
    have undropped := announce_update_undropped (f := fun c => { c with command := .manual }) (x := x) sound
      (sound.condition x).wtr (fun alone => absurd (joined.symm.trans alone) nofun) ?_
      fun trouble => absurd (trouble.symm.trans calm) nofun
    · have condition : (setCommand x .manual s).condition = _ := undropped.1
      show ((setCommand x .manual s).condition.get x).command = .manual
      rw [condition, Sides.get_set_self]
    · rw [ConditionSide.highest_code, ConditionSide.highest_code]
      show 3 ≤ max (max (s.condition.get x).detected.condition.code 2) _ → 3 ≤ _
      omega

/-- An accepted FORCE or MANUAL is above the detected condition (R98). -/
theorem detected_higher_set {force : Bool} (d : Detected) (calm : force = false → d.condition.code < Condition.fade.code) :
    d.condition.higher (setValue force).condition = (setValue force).condition := by
  apply Condition.code_injective
  rw [Condition.code_higher]
  refine Nat.max_eq_right ?_
  cases force with
  | true => cases d <;> decide
  | false => exact Nat.le_of_lt_succ (calm rfl)

theorem setCommand_condition {force : Bool} {x : Side} (sound : RestorationSound s) (joined : s.joined = true)
    (unparked : s.park = false) (calm : force = false → s.learnedTrouble = false) :
    (setCommand x (setValue force) s).condition.get x =
      { s.condition.get x with command := setValue force, announced := (setValue force).condition } := by
  have consistent := ((restorationSound_iff s).1 sound).1.toConsistent.updateCondition x
    (f := fun c => { c with command := setValue force }) (sound.condition x).wtr
    fun alone => absurd (joined.symm.trans alone) nofun
  have formed : (setCommand x (setValue force) s).condition.get x = _ := announce_condition consistent x
  have changed : (s.updateCondition x fun c => { c with command := setValue force }).condition.get x =
      { s.condition.get x with command := setValue force } := Sides.get_update_self _ _ _
  have kept : ((announce (s.updateCondition x fun c => { c with command := setValue force })).condition.get x).command =
      setValue force := setCommand_command sound joined calm
  rw [formed, kept, changed]
  refine congrArg (ConditionSide.mk _ _ _) ?_
  show ConditionSide.highest _ s.park = _
  rw [unparked, ConditionSide.highest_false]
  exact detected_higher_set _ fun manual => detected_of_calm sound joined (calm manual) x

/-- The other side can lose its MANUAL, and no more (R96). -/
theorem setCommand_other (s : State) (x : Side) (k : SideCommand) :
    (setCommand x k s).condition.get x.other =
      { s.condition.get x.other with
        command := ((setCommand x k s).condition.get x.other).command
        announced := ((setCommand x k s).condition.get x.other).announced } := by
  have side := (announce_detectionKept (s.updateCondition x fun c => { c with command := k })).side x.other
  have same : (s.updateCondition x fun c => { c with command := k }).condition.get x.other = s.condition.get x.other :=
    Sides.get_update_other _ _ _
  rw [same] at side
  exact side

/-- Where the command of side x stands after an event, the other side alone can have lost a MANUAL. -/
theorem commandDropped_other {s u t : State} {x : Side} (same : u.condition.get x.other = s.condition.get x.other)
    (stands : (t.condition.get x).command ≠ .none) :
    commandDropped [.east, .west] u t = commandDropped [x.other] s t := by
  have dropped : (∃ y ∈ [Side.east, .west], (u.condition.get y).command = .manual ∧ (t.condition.get y).command = .none) ↔
      ∃ y ∈ [x.other], (s.condition.get y).command = .manual ∧ (t.condition.get y).command = .none := by
    cases x with
    | east =>
      have lost : (u.condition.get .west).command = (s.condition.get .west).command := congrArg _ same
      simp [Side.other, stands, lost]
    | west =>
      have lost : (u.condition.get .east).command = (s.condition.get .east).command := congrArg _ same
      simp [Side.other, stands, lost]
  exact if_congr dropped rfl rfl

theorem setCommand_pulses {x : Side} {k : SideCommand} (quiet : s.events.pulses = 0#32)
    (stands : ((setCommand x k s).condition.get x).command ≠ .none) :
    (setCommand x k s).events.pulses = commandDropped [x.other] s (setCommand x k s) := by
  have pulses := (announce_detectionKept (s.updateCondition x fun c => { c with command := k })).manual.pulses quiet
  exact pulses.trans (commandDropped_other (Sides.get_update_other _ _ _) stands)

/-! ### R and the engine after FORCE (R102, R106, R112) -/

/-- Without the PARK command no own entry has PARK. -/
theorem own_ne_park (sound : RestorationSound s) (unparked : s.park = false) (x : Side) :
    (s.signalling.own.get x).condition ≠ .park := by
  rw [(sound.condition x).ownCondition, (sound.condition x).announced, unparked, ConditionSide.highest_false]
  cases (s.condition.get x).detected <;> cases (s.condition.get x).command <;> decide

theorem countedCondition_le (unparked : s.learnedPark = false) {p : Nat} (place : p < 32) (x : Side) :
    (s.entry p x).countedCondition.code ≤ Condition.force.code := by
  unfold Entry.countedCondition
  split
  next learned =>
    have other : (s.entry p x).condition ≠ .park := fun park =>
      absurd ((learnedPark_iff s).2 ⟨⟨p, place⟩, x, learned, park⟩) (by rw [unparked]; nofun)
    revert other
    cases (s.entry p x).condition <;> decide
  next => decide

theorem target_joined {p : Fin 32} (sound : RestorationSound s) (joined : s.joined = true)
    (position : s.identity.position = some p) (x : Side) :
    s.resolver.target.get x = s.resolver.restored.getLsbD (spanFaced s.ringMap.n p x) := by
  rw [resolver_joined sound joined position]
  cases x <;> rfl

/-- The span between a position and its neighbour has the position's side as one of its two ends (00 Spans and sides). -/
theorem spanFaced_end {n p : Nat} (below : p < n) :
    spanFaced n p .east = p ∧ (spanFaced n p .west + 1) % n = p := by
  refine ⟨rfl, ?_⟩
  show ((p + n - 1) % n + 1) % n = p
  rw [Nat.mod_add_mod, Nat.sub_add_cancel (by omega), Nat.add_mod_right, Nat.mod_eq_of_lt below]

/-- A span that this node's side announces FORCE on is in R, where no learned entry has PARK (R101, R102). -/
theorem restored_of_own_force {p : Fin 32} {x : Side} (sound : RestorationSound s) (joined : s.joined = true)
    (position : s.identity.position = some p) (unparked : s.learnedPark = false)
    (force : (s.signalling.own.get x).condition = .force) :
    s.resolver.restored.getLsbD (spanFaced s.ringMap.n p x) = true := by
  have size := ((complete_iff _).1 (sound.identity.complete joined)).1.2
  have below := (sound.identity.ring joined).2 p position
  have own : (s.entry p x).countedCondition.code = Condition.force.code := by
    rw [entry_own joined position]
    exact congrArg Condition.code force
  have faced : spanFaced s.ringMap.n p x < s.ringMap.n := by
    cases x
    · exact below
    · exact Nat.mod_lt _ (by omega)
  have code : (s.spanCondition (spanFaced s.ringMap.n p x)).code = Condition.force.code := by
    obtain ⟨east, west⟩ := spanFaced_end below
    rw [spanCondition_code]
    cases x with
    | east =>
      rw [east, own]
      exact Nat.max_eq_left (countedCondition_le unparked ((Nat.mod_lt _ (by omega)).trans_le size) .west)
    | west =>
      rw [west, own]
      exact Nat.max_eq_right (countedCondition_le unparked (faced.trans_le size) .east)
  rw [resolver_joined sound joined position]
  refine (getLsbD_chooseRestored s ⟨_, faced.trans_le size⟩).2 ⟨faced, ?_⟩
  rw [if_neg (by rw [unparked]; nofun), if_pos ⟨_, faced, .inr code⟩]
  exact .inr code

/-- A JOINED part that announces FORCE on a side, where no learned entry has PARK: the span that it faces is in R, the side's
engine bridges, and no MANUAL stands (R96, R102, R106, R112). -/
theorem force_stands {p : Fin 32} {x : Side} (sound : RestorationSound s) (joined : s.joined = true)
    (position : s.identity.position = some p) (unparked : s.learnedPark = false)
    (force : (s.signalling.own.get x).condition = .force) :
    s.resolver.restored.getLsbD (spanFaced s.ringMap.n p x) = true ∧ s.resolver.target.get x = true ∧
      ((s.engine.get x).phase = .bridged ∨ (s.engine.get x).phase = .looped) ∧
      (s.condition.get x.other).command ≠ .manual := by
  have restored := restored_of_own_force sound joined position unparked force
  have target := (target_joined sound joined position x).trans restored
  have trouble : s.learnedTrouble = true :=
    anyLearned_own joined position x (by rw [OwnEntry.entry, force]; rfl)
  exact ⟨restored, target, (sound.engine x).target.1 target, sound.manual trouble x.other⟩

end

/-! ### The turn of FORCE and MANUAL -/

theorem exec_setCommand {s : State} {force : Bool} {x : Side} {q : Port} {c : Cell} (straps : BitVec 6)
    (takes : TurnTakes s (.command (setCode force x)) q c) (accepted : Accepted s (setCode force x)) :
    exec ((Request.command (setCode force x)).row straps) s =
      .next (commandTurn s (setCommand x (setValue force) (takeRequest q s)) q c) := by
  cases force with
  | true => cases x <;> exact congrArg _ (turn_accepted takes ((forceAccepted_iff s).2 accepted))
  | false => cases x <;> exact congrArg _ (turn_accepted takes ((manualAccepted_iff s).2 accepted))

/-- Settles O45: the side's command and condition are those of the announcement, and what follows a FORCE is what a sound part
that announces it shows. -/
theorem forceAndManualTakeEffect : Obligations.ForceAndManualTakeEffect := by
  intro s force x p q c straps k sound events takes accepted position
  have code : k = setCode force x := by cases force <;> cases x <;> rfl
  rw [code] at takes accepted ⊢
  obtain ⟨joined, unlearned, calm⟩ := setAccepted accepted
  have unparked := park_of_unlearned sound joined unlearned
  have kept := takeRequest_sound q sound
  have worked := (setCommand_kept (s := takeRequest q s) (k := setValue force) x joined
    (by cases force; exacts [fun _ => calm rfl, nofun])).sound kept
  have set := setCommand_condition (s := takeRequest q s) (x := x) kept joined unparked calm
  have frame : RestorationFrame ((takeRequest q s).setPark s.park) (setCommand x (setValue force) (takeRequest q s)) :=
    (updateCondition_frame _ x _).trans (announce_frame _)
  have value : (setValue force).condition = if force then .force else .manual := by cases force <;> rfl
  have other := setCommand_other (takeRequest q s) x (setValue force)
  have pulses := setCommand_pulses (s := takeRequest q s) (x := x) (k := setValue force) events.pulses
    (by rw [set]; cases force <;> nofun)
  have ran := exec_setCommand straps takes accepted
  have reported := commandTurn_reported (c := c) frame
  have turned := commandTurn_frame (c := c) frame
  have sound' := commandTurn_sound (s := s) (q := q) (c := c) worked
  have condition := (commandTurn_kept s (setCommand x (setValue force) (takeRequest q s)) q c).1
  rw [pulses, commandDropped_congr (s := s) (s' := takeRequest q s) rfl condition.symm] at reported
  rw [← condition, value] at set
  rw [← condition] at other
  generalize commandTurn s (setCommand x (setValue force) (takeRequest q s)) q c = t at *
  have own : (t.signalling.own.get x).condition = if force then .force else .manual := by
    rw [(sound'.condition x).ownCondition, set]
  refine ⟨t, ran, set, own, other, fun forced => ?_, reported, turned⟩
  have joined' : t.joined = true := by
    rw [State.joined, turned]
    exact joined
  have unlearned' : t.learnedPark = false := eq_false_of_ne_true fun park => by
    refine absurd (anyLearned_of_own (s := s) (t := t) (by rw [turned]) (by rw [turned]) (fun y parked => ?_) park)
      (ne_true_of_eq_false unlearned)
    exact absurd (eq_of_beq parked) (own_ne_park sound' (by rw [turned]; exact unparked) y)
  have position' : t.identity.position = some p := by
    rw [turned]
    exact position
  have stands := force_stands (x := x) sound' joined' position' unlearned' (by rw [own, if_pos forced])
  rw [show t.ringMap = s.ringMap by rw [turned]] at stands
  exact stands

end Sys2Proof.Machine

/-! PROOFS. A table-change notice moves each Loop Engine once: its target change, then its partner test (R109 to R122). -/

namespace Sys2Proof.Machine

/-! ### The moves of an engine in the terms of the claim -/

/-- The moves that the claim lists case by case are the target change followed by the partner test (R110). -/
theorem Engine.moved_eq (e : Engine) (old new : Bool) (far : Action) (timer : Timer) :
    e.moved old new far timer = (e.retarget timer old new).partnerTest far := by
  obtain ⟨phase, confirm, silent⟩ := e
  cases old <;> cases new <;> cases phase <;> cases far <;> rfl

/-- The far end across the span of a side is the partner entry (R111). -/
theorem farAction_eq (s : State) (x : Side) : s.farAction x = s.partnerAction x := by
  unfold State.farAction State.partnerAction
  cases s.identity.position with
  | none => rfl
  | some p => cases x <;> rfl

/-! ### Engines that follow one notice -/

/-- From s to t each engine has moved as one table-change notice with the targets and the partners of t moves it, the confirm
timer being started from the Profile of s (R110, R121). -/
def EnginesFollow (s t : State) : Prop :=
  ∀ x, t.engine.get x =
    ((s.engine.get x).retarget (startUnits s.profile.confirmTimeout) (s.resolver.target.get x)
      (t.resolver.target.get x)).partnerTest (t.partnerAction x)

section
variable {s t u : State}

/-- Engines whose targets stand and whose partners have no new answer for them have followed. -/
theorem enginesFollow_of_unmoved (engine : t.engine = s.engine) (target : t.resolver.target = s.resolver.target)
    (answered : ∀ x, (s.engine.get x).Answered (t.partnerAction x)) : EnginesFollow s t := by
  intro x
  rw [engine, target, (Engine.retarget_spec _ _ _).1, (answered x).partnerTest_eq]

/-- What is done before the notice may move anything but the engines, their targets and the Profile. -/
theorem EnginesFollow.from_unmoved (h : EnginesFollow u t) (engine : u.engine = s.engine)
    (target : u.resolver.target = s.resolver.target) (profile : u.profile = s.profile) : EnginesFollow s t := by
  intro x
  rw [← engine, ← target, ← profile]
  exact h x

/-- What is done after the notice may move anything but the engines, their targets and what the table shows. -/
theorem EnginesFollow.to_shown (h : EnginesFollow s u) (engine : t.engine = u.engine)
    (target : t.resolver.target = u.resolver.target) (shown : TableShown u t) : EnginesFollow s t := by
  intro x
  rw [engine, target, shown.partnerAction]
  exact h x

theorem EnginesFollow.to_aside (h : EnginesFollow s u) (k : Aside u t) : EnginesFollow s t :=
  h.to_shown (by rw [k]) (by rw [k]) k.alike.shown

/-- The drop of MANUAL commands moves conditions alone (R96). -/
theorem dropManual_engine (s : State) : (dropManual s).engine = s.engine ∧ (dropManual s).resolver = s.resolver := by
  unfold dropManual
  split <;> exact ⟨rfl, rfl⟩

/-- What a notice settles, up to the ring-quiet flag and the role, is what its first pass settles (log 17). -/
theorem tableNotice_cases (h : Announced s) (joined : s.joined = true) :
    tableNotice s = (dropManual s).notified ∨
      tableNotice s = { (dropManual s).notified with resolver := (dropManual s).notified.resolved } := by
  have dropped := dropManual_announced h
  have manual := notified_manualDropped (dropManual_manualDropped s)
  have joined' : (dropManual s).joined = true := by
    rw [State.joined, dropManual_frame s]
    exact joined
  have pass := noticePass_eq_notified h.toConsistent joined
  unfold tableNotice
  dsimp only
  rw [pass]
  generalize dropManual s = u at *
  have passed := dropped.notified joined'
  split
  · exact .inl rfl
  · have target : u.notified.resolver.target = u.notified.resolved.target :=
      (resolved_target_congr (s := u) (t := u.notified) rfl rfl (notified_conditions u)).symm
    right
    rw [noticePass_eq_notified passed.toConsistent joined', manual.dropManual_eq,
      notified_eq target (notified_answered dropped.toConsistent joined') passed.ownAction]

/-- The engines follow the first pass of a notice (R110). -/
theorem notified_enginesFollow (h : Consistent s) (joined : s.joined = true) : EnginesFollow s s.notified := by
  obtain ⟨size, position⟩ := h.identity.ring joined
  intro x
  rw [partnerAction_congr (s := s) (t := s.notified) rfl rfl rfl size position x]
  cases x <;> rfl

/-- The engines follow a table-change notice (R110). -/
theorem tableNotice_enginesFollow (h : Announced s) (joined : s.joined = true) : EnginesFollow s (tableNotice s) := by
  have dropped := dropManual_announced h
  have frame := dropManual_frame s
  obtain ⟨engine, resolver⟩ := dropManual_engine s
  have joined' : (dropManual s).joined = true := by
    rw [State.joined, frame]
    exact joined
  have first : EnginesFollow s (dropManual s).notified :=
    (notified_enginesFollow dropped.toConsistent joined').from_unmoved engine (by rw [resolver]) (by rw [frame])
  rcases tableNotice_cases h joined with eq | eq
  · rw [eq]
    exact first
  · rw [eq]
    exact first.to_shown rfl (resolved_target_congr (s := dropManual s) rfl rfl (notified_conditions _))
      ⟨rfl, rfl, fun _ _ => ⟨rfl, rfl⟩, fun _ _ => ⟨rfl, rfl⟩⟩

/-- The engines follow a change of the announced conditions, with the notice that it hands or with none (R63, R64, R110). -/
theorem announce_enginesFollow (h : Consistent s) (answered : ∀ x, (s.engine.get x).Answered (s.partnerAction x)) :
    EnginesFollow s (announce s) := by
  rw [announce_eq_noticed]
  unfold noticed
  split
  next due =>
    exact (tableNotice_enginesFollow h.formAnnounced (Bool.and_eq_true _ _ ▸ due).1).from_unmoved rfl rfl rfl
  next idle =>
    have shown : TableShown s (formAnnounced s) := .of_own rfl rfl rfl fun joined x => by
      have same : (formAnnounced s).ownContent = s.ownContent := by
        simpa [show (formAnnounced s).joined = true from joined] using idle
      cases x
      · exact congrArg Prod.fst same
      · exact congrArg Prod.snd same
    exact enginesFollow_of_unmoved rfl rfl fun x => shown.partnerAction x ▸ answered x

/-- The engines follow a report of a Span Monitor (R86, R110). -/
theorem takeReport_enginesFollow (x : Side) (r : Report) (h : Announced s)
    (answered : ∀ y, (s.engine.get y).Answered (s.partnerAction y)) : EnginesFollow s (takeReport x s r) := by
  refine (announce_enginesFollow (h.updateCondition x (ConditionSide.report_wtr (h.wtr x) rfl _ r) fun alone => ?_)
    answered).from_unmoved rfl rfl rfl
  simpa using (h.commands alone).1 x

end

/-! ### Work that hands at most one chain of notices -/

/-- From a sound state, the engines of t have followed one notice. -/
def OneNotice (s t : State) : Prop :=
  RestorationSound s → EnginesFollow s t

section
variable {s t u : State}

/-- Work that moves neither engines nor targets and keeps the invariant hands no notice that moves an engine. -/
theorem RestorationKept.oneNotice (h : RestorationKept s t) (engine : t.engine = s.engine)
    (target : t.resolver.target = s.resolver.target) : OneNotice s t := by
  intro sound
  have answered := ((restorationSound_iff t).1 (h.sound sound)).2.answered
  rw [engine] at answered
  exact enginesFollow_of_unmoved engine target answered

theorem Aside.oneNotice (h : Aside s t) : OneNotice s t := h.kept.oneNotice (by rw [h]) (by rw [h])

theorem OneNotice.from_aside (h : OneNotice u t) (k : Aside s u) (profile : u.profile = s.profile) : OneNotice s t :=
  fun sound => (h (k.kept.sound sound)).from_unmoved (by rw [k]) (by rw [k]) profile

theorem OneNotice.to_aside (h : OneNotice s u) (k : Aside u t) : OneNotice s t := fun sound => (h sound).to_aside k

theorem OneNotice.guarded {p : Prop} [Decidable p] (h : OneNotice s t) : OneNotice s (if p then t else s) := by
  split
  · exact h
  · exact Aside.oneNotice rfl

/-- The end of an event moves own editions and nothing else that engines rest on (R63). -/
theorem OneNotice.event {f : State → State} (h : OneNotice s (f s)) : OneNotice s (event f s) :=
  fun sound => (h sound).to_shown (by rw [event_frame]) (by rw [event_frame]) (event_alike f s).shown

theorem readClearEvent_alike (f : State → State) (s : State) : Alike (f s) (readClearEvent f s) :=
  .of_frame rfl fun x => by
    refine Eq.trans ?_ (OwnEntry.advance_content (s.signalling.own.get x) _)
    cases x <;> rfl

theorem OneNotice.readClearEvent {f : State → State} (h : OneNotice s (f s)) : OneNotice s (readClearEvent f s) :=
  fun sound => (h sound).to_shown rfl rfl (readClearEvent_alike f s).shown

/-- A change of one side's conditions, announced, where a WTR timer runs in HOLD alone and no command is set while
STANDALONE. -/
theorem announce_update_oneNotice (x : Side) {f : ConditionSide → ConditionSide}
    (wtr : ((s.condition.get x).wtr.isSome ↔ (s.condition.get x).detected = .hold) →
      ((f (s.condition.get x)).wtr.isSome ↔ (f (s.condition.get x)).detected = .hold))
    (alone : s.joined = false → (s.condition.get x).command = .none → (f (s.condition.get x)).command = .none) :
    OneNotice s (announce (s.updateCondition x f)) := by
  intro sound
  obtain ⟨announced, settled⟩ := (restorationSound_iff s).1 sound
  exact (announce_enginesFollow
    (announced.updateCondition x (wtr (announced.wtr x)) fun k => alone k ((announced.commands k).1 x))
    settled.answered).from_unmoved rfl rfl rfl

theorem takeReport_oneNotice (x : Side) (s : State) (r : Report) : OneNotice s (takeReport x s r) := by
  intro sound
  obtain ⟨announced, settled⟩ := (restorationSound_iff s).1 sound
  exact takeReport_enginesFollow x r announced settled.answered

theorem wtrExpires_oneNotice (x : Side) (s : State) : OneNotice s (wtrExpires x s) :=
  announce_update_oneNotice x (fun _ => by simp [ConditionSide.become]) fun _ => id

theorem setCommand_oneNotice (x : Side) (k : SideCommand) (joined : s.joined = true) : OneNotice s (setCommand x k s) :=
  announce_update_oneNotice x id fun alone => absurd (joined.symm.trans alone) nofun

theorem clearSide_oneNotice (x : Side) (s : State) : OneNotice s (clearSide x s) := by
  intro sound
  refine announce_update_oneNotice x (fun h => ?_) (fun _ _ => ?_) sound
  · rw [ConditionSide.clearCommand_eq h]
    split
    · simp
    next other => simp [other]
  · rw [ConditionSide.clearCommand_eq (sound.condition x).wtr]

theorem setParkCommand_oneNotice (v : Bool) (joined : s.joined = true) : OneNotice s (setParkCommand v s) := by
  intro sound
  obtain ⟨announced, settled⟩ := (restorationSound_iff s).1 sound
  exact (announce_enginesFollow (announced.setPark joined v) settled.answered).from_unmoved rfl rfl rfl

/-- LEAVE finds both engines IDLE, so neither has a target to lose (R57; log 15). -/
theorem leaveEffect_oneNotice (accepted : leaveAccepted s = true) : OneNotice s (leaveEffect s) := by
  intro sound
  have idle := ((leaveAccepted_iff s).1 accepted).2
  refine (leaveEffect_kept accepted).oneNotice (by rw [leaveEffect_eq]) (Sides.ext_get fun x => ?_) sound
  have straight : s.resolver.target.get x = false := by
    have follows := (sound.engine x).target
    rw [idle x] at follows
    simpa using follows
  rw [leaveEffect_eq, straight]
  cases x <;> rfl

end

end Sys2Proof.Machine

/-! PROOFS. Of the reports that one Span Monitor event hands, at most one moves the detected condition (R87 to R89). -/

namespace Sys2Proof.Machine

/-! ### Reports that move nothing -/

section
variable {s t : State}

/-- A report that leaves the detected condition leaves the WTR timer with it (R87 to R90). -/
theorem ConditionSide.report_still {c : ConditionSide} {quality : Quality} {timer : Timer} {r : Report}
    (still : (c.report quality timer r).detected = c.detected) : c.report quality timer r = c := by
  obtain ⟨detected, wtr, command, announced⟩ := c
  cases r with
  | standingDefect =>
    cases detected with
    | cut => rfl
    | idle | fade | hold => exact absurd still nofun
  | defectClear =>
    cases detected with
    | cut =>
      cases quality with
      | excessive => rfl
      | good | fading => exact absurd still nofun
    | idle | fade | hold => rfl
  | qualityChange q =>
    cases q with
    | excessive => rfl
    | fading =>
      cases detected with
      | idle | hold => exact absurd still nofun
      | fade | cut => rfl
    | good =>
      cases detected with
      | fade => exact absurd still nofun
      | idle | cut | hold => rfl

/-- Announced conditions formed afresh stand as they were (R98). -/
theorem Announced.formAnnounced_eq (h : Announced s) : formAnnounced s = s := by
  have condition (x : Side) : { s.condition.get x with announced := (s.condition.get x).highest s.park } =
      s.condition.get x := by rw [← h.announced]
  have own (x : Side) : { s.signalling.own.get x with condition := (s.condition.get x).highest s.park } =
      s.signalling.own.get x := by rw [← h.announced, ← h.ownCondition]
  unfold formAnnounced
  dsimp only
  rw [show s.condition.east = s.condition.get .east from rfl, show s.condition.west = s.condition.get .west from rfl,
    show s.signalling.own.east = s.signalling.own.get .east from rfl,
    show s.signalling.own.west = s.signalling.own.get .west from rfl, condition, condition, own, own]
  rfl

/-- A report that leaves the detected condition changes nothing (R63, R86). -/
theorem takeReport_still {x : Side} {r : Report} (h : Announced s)
    (still : ((takeReport x s r).condition.get x).detected = (s.condition.get x).detected) : takeReport x s r = s := by
  have moved := congrArg Prod.fst (takeReport_detection x s r).1
  have same : (s.condition.get x).report (s.monitor.get x).quality (startSeconds s.profile.wtrTime) r =
      s.condition.get x := by
    refine ConditionSide.report_still ?_
    rw [ConditionSide.report_eq]
    exact moved.symm.trans still
  have unchanged : (s.updateCondition x fun c =>
      c.report (s.monitor.get x).quality (startSeconds s.profile.wtrTime) r) = s := by
    rw [State.updateCondition_eq, Sides.update, same, Sides.set_get]
  unfold takeReport
  rw [unchanged, announce_eq_noticed, h.formAnnounced_eq]
  unfold noticed
  rw [if_neg]
  simp

/-! ### At most one report that moves the detected condition -/

/-- From s to t nothing happened, or one report of side x. -/
def AtMostOneReport (x : Side) (s t : State) : Prop :=
  t = s ∨ ∃ r, t = takeReport x s r

theorem AtMostOneReport.oneNotice {x : Side} (h : AtMostOneReport x s t) : OneNotice s t := by
  rcases h with rfl | ⟨r, rfl⟩
  · exact Aside.oneNotice rfl
  · exact takeReport_oneNotice x s r

theorem AtMostOneReport.eq_of_detected {x : Side} (h : AtMostOneReport x s t) (announced : Announced s)
    (still : (t.condition.get x).detected = (s.condition.get x).detected) : t = s := by
  rcases h with rfl | ⟨r, rfl⟩
  · rfl
  · exact takeReport_still announced still

/-- After a report of the flag has moved the detected condition, the quality at hand moves it no further: CUT stands through
quality, and a defect clear already went by that quality (R87 to R89). -/
theorem Report.moves_quality {r : Report} (flag : r = .standingDefect ∨ r = .defectClear) (quality : Quality)
    (timer timer' : Timer) (d : Detected × Timer) :
    (r.moves quality timer d).1 = d.1 ∨
      ((Report.qualityChange quality).moves quality timer' (r.moves quality timer d)).1 = (r.moves quality timer d).1 := by
  obtain ⟨detected, wtr⟩ := d
  rcases flag with rfl | rfl
  · right
    rw [Report.moves_standingDefect]
    cases quality <;> rfl
  · cases detected with
    | cut =>
      right
      cases quality <;> rfl
    | idle | fade | hold => exact .inl rfl

/-- A report of the flag and then one of the quality at hand are at most one that moves the detected condition. -/
theorem takeReport_quality {r : Report} {x : Side} (h : Announced s) (flag : r = .standingDefect ∨ r = .defectClear) :
    AtMostOneReport x s (takeReport x (takeReport x s r) (.qualityChange (s.monitor.get x).quality)) := by
  have first := congrArg Prod.fst (takeReport_detection x s r).1
  have detection := (takeReport_detection x s r).1
  have monitor : (takeReport x s r).monitor = s.monitor := by rw [takeReport_frame x s r]
  have second := congrArg Prod.fst
    (takeReport_detection x (takeReport x s r) (.qualityChange (s.monitor.get x).quality)).1
  rw [detection, monitor] at second
  rcases Report.moves_quality flag (s.monitor.get x).quality (startSeconds s.profile.wtrTime)
    (startSeconds (takeReport x s r).profile.wtrTime) (s.condition.get x).detection with still | still
  · rw [takeReport_still h (first.trans still)]
    exact .inr ⟨_, rfl⟩
  · exact .inr ⟨r, takeReport_still (takeReport_announced x r h) ((second.trans still).trans first.symm)⟩

/-- The reports of a rise or fall of the flag are none or one (R26, R27). -/
theorem Monitor.formFlag_reports_cases (m : Monitor) (joined : Bool) (time : Nat) :
    (m.formFlag joined time).2 = [] ∨ ∃ r, (m.formFlag joined time).2 = [r] ∧ (r = .standingDefect ∨ r = .defectClear) := by
  rw [Monitor.formFlag_reports]
  split
  · exact .inr ⟨_, rfl, .inl rfl⟩
  · split
    · exact .inr ⟨_, rfl, .inr rfl⟩
    · exact .inl rfl

theorem qualityReports_cases (before after : Quality) :
    qualityReports before after = [] ∨ qualityReports before after = [.qualityChange after] := by
  unfold qualityReports
  split
  · exact .inl rfl
  · exact .inr rfl

/-- A Span Monitor event that leaves side x with monitor m hands the reports of the flag and of at most one change of quality;
of these at most one moves the detected condition (R25, R27). -/
theorem closeMonitor_atMostOneReport {x : Side} {m : Monitor} {changes : List Report} (h : Announced s)
    (quality : changes = [] ∨ changes = [.qualityChange m.quality]) :
    AtMostOneReport x (s.setMonitor (s.monitor.set x (m.formFlag s.joined s.profile.holdOffTime).1))
      (closeMonitor x changes (s.setMonitor (s.monitor.set x m))) := by
  have closed : closeMonitor x changes (s.setMonitor (s.monitor.set x m)) =
      ((m.formFlag s.joined s.profile.holdOffTime).2 ++ changes).foldl (takeReport x)
        (s.setMonitor (s.monitor.set x (m.formFlag s.joined s.profile.holdOffTime).1)) := by
    unfold closeMonitor
    dsimp only
    rw [State.setMonitor_monitor, Sides.get_set_self]
    simp only [Sides.set_set]
    rfl
  have set : Aside s (s.setMonitor (s.monitor.set x (m.formFlag s.joined s.profile.holdOffTime).1)) := rfl
  have formed : ((s.setMonitor (s.monitor.set x (m.formFlag s.joined s.profile.holdOffTime).1)).monitor.get x).quality =
      m.quality := by
    rw [State.setMonitor_monitor, Sides.get_set_self, Monitor.formFlag_frame]
  rw [closed]
  have announced := h.congr set.alike
  clear set
  generalize s.setMonitor (s.monitor.set x (m.formFlag s.joined s.profile.holdOffTime).1) = u at *
  rcases m.formFlag_reports_cases s.joined s.profile.holdOffTime with none | ⟨r, one, flag⟩
  · rw [none]
    rcases quality with rfl | rfl
    · exact .inl rfl
    · exact .inr ⟨_, rfl⟩
  · rw [one]
    rcases quality with rfl | rfl
    · exact .inr ⟨r, rfl⟩
    · rw [← formed]
      exact takeReport_quality announced flag

theorem closeMonitor_oneNotice {x : Side} {m : Monitor} {changes : List Report}
    (quality : changes = [] ∨ changes = [.qualityChange m.quality]) :
    OneNotice s (closeMonitor x changes (s.setMonitor (s.monitor.set x m))) := by
  intro sound
  have closes := closeMonitor_atMostOneReport (x := x) ((restorationSound_iff s).1 sound).1 quality
  exact (closes.oneNotice).from_aside rfl rfl sound

end

/-! ### The Span Monitor events -/

section
variable (s : State)

theorem depart_aside (x : Side) : Aside s (depart x s) := rfl

/-- The entry to ALIGNED, where the settle mask does not expire within it (R39). -/
theorem monitorEntersAligned_oneNotice {s : State} (x : Side) (masked : s.profile.settleTime ≠ 0) :
    OneNotice s (monitorEntersAligned x s) := by
  unfold monitorEntersAligned
  dsimp only [Monitor.withQuality]
  rw [if_neg masked, show qualityReports .good .good = [] from rfl, List.append_nil]
  exact closeMonitor_oneNotice (qualityReports_cases _ _)

theorem presyncWord_oneNotice {s : State} (x : Side) (word : Word) (masked : s.profile.settleTime ≠ 0) :
    OneNotice s
      (if goodWord word then enterAligned x s else s.updateReceiver x fun r => { r with align := .search }) := by
  split
  · exact (monitorEntersAligned_oneNotice (s := (s.updateReceiver x fun _ => ⟨.aligned, 0, none⟩).updateBuffer x
      fun _ => ⟨.centering, [], none⟩) x masked).from_aside rfl rfl
  · exact Aside.oneNotice rfl

/-- The end of a Span Monitor event on the monitor as it stands, with no change of quality. -/
theorem closeMonitor_quiet_oneNotice (x : Side) : OneNotice s (closeMonitor x [] s) := by
  have closes := closeMonitor_oneNotice (s := s) (x := x) (m := s.monitor.get x) (.inl rfl)
  rw [Sides.set_get] at closes
  exact closes

theorem alignedWord_oneNotice (x : Side) (word : Word) : OneNotice s (alignedWord x word s) := by
  unfold alignedWord
  split
  · exact Aside.oneNotice rfl
  · split
    · exact Aside.oneNotice rfl
    · exact (closeMonitor_quiet_oneNotice _ x).from_aside (depart_aside s x) rfl

theorem losRises_oneNotice (x : Side) : OneNotice s (losRises x s) := by
  have raised : Aside s (s.setLosPin (s.losPin.set x true)) := rfl
  have profile : (receiverLoses x (s.setLosPin (s.losPin.set x true))).profile = s.profile := by
    unfold receiverLoses
    split <;> rfl
  unfold losRises
  exact (closeMonitor_oneNotice (.inl rfl)).from_aside (raised.trans (receiverLoses_aside x _)) profile

theorem losFalls_oneNotice (x : Side) : OneNotice s (losFalls x s) :=
  (closeMonitor_quiet_oneNotice _ x).from_aside rfl rfl

theorem holdOffExpires_oneNotice (x : Side) : OneNotice s (holdOffExpires x s) :=
  (takeReport_oneNotice x _ _).from_aside rfl rfl

theorem settleExpires_oneNotice (x : Side) : OneNotice s (settleExpires x s) :=
  closeMonitor_oneNotice (qualityReports_cases _ _)

/-- A Span Monitor event for an arriving frame that leaves the detected condition moves nothing that restoration rests on. -/
theorem monitorArrival_aside {s : State} {x : Side} (outcome : VectorOutcome) (parity : Option Nat) (h : Announced s)
    (still : ((monitorArrival x outcome parity s).condition.get x).detected = (s.condition.get x).detected) :
    Aside s (monitorArrival x outcome parity s) := by
  unfold monitorArrival at still ⊢
  dsimp only at still ⊢
  split at still
  next v =>
    have counted : Aside s (countParity s x v) := rfl
    have closes := closeMonitor_atMostOneReport (x := x) (h.congr counted.alike)
      (qualityReports_cases (s.monitor.get x).quality
        (((s.monitor.get x).takeOutcome outcome).takeParity s.profile x v).quality)
    exact closes.eq_of_detected (h.congr (Aside.alike rfl)) still ▸ rfl
  next =>
    have closes := closeMonitor_atMostOneReport (x := x) (m := (s.monitor.get x).takeOutcome outcome) h (.inl rfl)
    exact closes.eq_of_detected (h.congr (Aside.alike rfl)) still ▸ rfl

end

end Sys2Proof.Machine

/-! PROOFS. The Loop Engines through a JOIN and through a frame's arrival (R56, R74 to R79). -/

namespace Sys2Proof.Machine

/-! ### JOIN (R56, R83) -/

section
variable {s t : State} {timer : Timer}

/-- Where no remote entry is learned, no partner announces anything (R61, R111). -/
theorem partnerAction_unlearned (h : IdentitySound s) (joined : s.joined = true)
    (rct : s.signalling.rct = Vector.replicate 64 Entry.unlearned) (x : Side) : s.partnerAction x = .pass := by
  obtain ⟨size, position⟩ := h.ring joined
  unfold State.partnerAction
  split
  next p own =>
    have other := (neighbourOf_ne size (position p own) x).symm
    unfold State.entry
    rw [own, rct]
    simp only [elementAt, Option.any_some, other, beq_iff_eq, Bool.and_eq_true, and_false, if_false, Vector.getElem?_replicate]
    split <;> rfl
  next => rfl

/-- An engine that has only its own target to follow: it waits in BRIDGED while the target is loop, and is at rest otherwise. -/
def Engine.awaiting (timer : Timer) (target : Bool) : Engine :=
  if target then ⟨.bridged, timer, false⟩ else Engine.reset

/-- Such an engine keeps to its target through any changes of it, however many notices bring them (R112, R115). -/
theorem Engine.awaiting_follows (timer : Timer) (old new : Bool) :
    ((Engine.awaiting timer old).retarget timer old new).partnerTest .pass = Engine.awaiting timer new := by
  cases old <;> cases new <;> rfl

/-- A part that is taking a JOIN: no remote entry is learned, and its engines have their targets alone to follow. -/
structure Joining (timer : Timer) (s : State) : Prop extends Announced s where
  joined : s.joined = true
  unlearned : s.signalling.rct = Vector.replicate 64 Entry.unlearned
  started : startUnits s.profile.confirmTimeout = timer
  engine : ∀ x, s.engine.get x = Engine.awaiting timer (s.resolver.target.get x)

theorem Joining.partnerAction (h : Joining timer s) (x : Side) : s.partnerAction x = .pass :=
  partnerAction_unlearned h.identity h.joined h.unlearned x

theorem Joining.answered (h : Joining timer s) (x : Side) : (s.engine.get x).Answered (s.partnerAction x) := by
  rw [h.partnerAction, h.engine]
  cases s.resolver.target.get x <;> exact ⟨fun _ => rfl, nofun, fun _ _ => rfl⟩

/-- One more notice leaves it so. -/
theorem Joining.notice (h : Joining timer s) (announced : Announced t) (frame : RestorationFrame s t)
    (follows : EnginesFollow s t) : Joining timer t where
  toAnnounced := announced
  joined := by
    rw [State.joined, frame]
    exact h.joined
  unlearned := by
    rw [frame]
    exact h.unlearned
  started := by
    rw [frame]
    exact h.started
  engine := fun x => by
    have partner : t.partnerAction x = .pass := by
      refine partnerAction_unlearned announced.identity ?_ ?_ x
      · rw [State.joined, frame]
        exact h.joined
      · rw [frame]
        exact h.unlearned
    rw [follows x, partner, h.started, h.engine]
    exact Engine.awaiting_follows timer _ _

/-- The hold-off's start on a side hands at most one report (R28). -/
theorem joinHoldOff_joining (x : Side) (h : Joining timer s) : Joining timer (joinHoldOff x s) := by
  rw [joinHoldOff_eq]
  have started : Joining timer
      (s.setMonitor (s.monitor.set x ((s.monitor.get x).started s.profile.holdOffTime))) :=
    ⟨h.toAnnounced.congr (Aside.alike rfl), h.joined, h.unlearned, h.started, h.engine⟩
  unfold Monitor.startReports
  split
  · exact started.notice (takeReport_announced x _ started.toAnnounced) (takeReport_frame x _ _)
      (takeReport_enginesFollow x _ started.toAnnounced started.answered)
  · exact started

/-- The engines follow a JOIN, whose hold-offs and own notice hand up to three notices: from IDLE and with no partner learned they
end as one notice with the last targets leaves them (R56, R110, R112). -/
theorem joinEffect_oneNotice (accepted : JoinAccepted s) : OneNotice s (joinEffect s) := by
  intro sound
  have rest := ((restorationSound_standalone_iff accepted.mode).1 sound).2.2.2
  have straight (x : Side) : s.resolver.target.get x = false := by
    rw [rest.1]
    cases x <;> rfl
  have start : Joining (startUnits s.profile.confirmTimeout) (joining s) :=
    ⟨joining_announced sound accepted, rfl, rfl, rfl, fun x => by
      show s.engine.get x = Engine.awaiting _ (s.resolver.target.get x)
      rw [straight, rest.2]
      rfl⟩
  have held := joinHoldOff_joining .west (joinHoldOff_joining .east start)
  have settled := held.notice ((restorationSound_iff _).1 (tableNotice_sound held.toAnnounced held.joined)).1
    (tableNotice_frame _) (tableNotice_enginesFollow held.toAnnounced held.joined)
  intro x
  rw [joinEffect_eq, settled.engine, settled.partnerAction, straight, rest.2]
  exact (Engine.awaiting_follows _ false _).symm

end

/-! ### The arrival of a frame (R4, R11, R74 to R79) -/

section
variable {s : State}

/-- A merge moves no detected condition. -/
theorem arrivalMerge_detected (start : Sides OwnEntry) (x : Side) (v : SigVector) (qualifies : Bool) (s : State) (y : Side) :
    ((arrivalMerge start x v qualifies s).condition.get y).detected = (s.condition.get y).detected := by
  unfold arrivalMerge mergeVector
  split
  · split
    next p _ =>
      have merged : (mergeEntries start s x v p.val).condition = s.condition := by rw [mergeEntries_elsewhere]
      dsimp only
      split
      · rw [(tableNotice_detectionKept _).detected, merged]
      · rw [merged]
    next => rfl
  · rfl

/-- The engines follow the notice that a merge hands, or the merge shows them nothing new (R79, R110). -/
theorem mergeVector_oneNotice (start : Sides OwnEntry) (x : Side) (v : SigVector) (joined : s.joined = true) :
    OneNotice s (mergeVector start s x v) := by
  intro sound
  obtain ⟨announced, settled⟩ := (restorationSound_iff s).1 sound
  unfold mergeVector
  split
  next p _ =>
    have merged := mergeEntries_announced (start := start) (x := x) (v := v) (p := p.val) announced joined
    have content := mergeEntries_content (start := start) (s := s) (x := x) (v := v) (p := p.val)
    have frame := mergeEntries_elsewhere (start := start) (s := s) (x := x) (v := v) (p := p.val)
    dsimp only at frame ⊢
    generalize mergeEntries start s x v p.val = t at *
    split
    · refine (tableNotice_enginesFollow merged ?_).from_unmoved ?_ ?_ ?_
      · rw [State.joined, frame]
        exact joined
      · rw [frame]
      · rw [frame]
      · rw [frame]
    next same =>
      have shown := tableShown_of_unchanged (by rw [frame]) (by rw [frame]) content (eq_false_of_ne_true same)
      exact enginesFollow_of_unmoved (by rw [frame]) (by rw [frame]) fun y => shown.partnerAction y ▸ settled.answered y
  next => exact Aside.oneNotice rfl sound

theorem arrivalMerge_oneNotice (start : Sides OwnEntry) (x : Side) (v : SigVector) {qualifies : Bool}
    (joined : qualifies = true → s.joined = true) : OneNotice s (arrivalMerge start x v qualifies s) := by
  unfold arrivalMerge
  split
  next merges => exact mergeVector_oneNotice start x v (joined merges)
  next => exact Aside.oneNotice rfl

theorem arrivalTaken_profile (x : Side) (f : LineFrame) (s : State) : (arrivalTaken x f s).profile = s.profile := by
  unfold arrivalTaken
  rw [noteVector_frame]
  show (bufferArrival x f.slots s).profile = s.profile
  rw [bufferArrival_frame]

/-- The merge and the Span Monitor's event of an arrival, in the order given (R11; log 7). -/
def inOrder (order : ArrivalOrder) (merge monitor : State → State) (s : State) : State :=
  match order with
  | .mergeFirst => monitor (merge s)
  | .monitorFirst => merge (monitor s)

theorem arrivalWork_eq (x : Side) (f : LineFrame) (order : ArrivalOrder) (s : State) :
    arrivalWork x f order s =
      inOrder order (arrivalMerge s.signalling.own x f.vector (mergeable s x f.vector))
        (monitorArrival x (vectorOutcome s x f.vector) (parityResult x f s)) (arrivalTaken x f s) := by
  cases order <;> rfl

theorem monitorArrival_mode (x : Side) (outcome : VectorOutcome) (parity : Option Nat) (s : State) :
    (monitorArrival x outcome parity s).joined = s.joined ∧ (monitorArrival x outcome parity s).profile = s.profile := by
  rw [State.joined, (monitorArrival_ringWork x outcome parity s).frame]
  exact ⟨rfl, rfl⟩

/-- A merge and a Span Monitor's event that leaves the detected condition, in either order, hand the notice of the merge alone. -/
theorem inOrder_oneNotice (start : Sides OwnEntry) (x : Side) (v : SigVector) {qualifies : Bool}
    (outcome : VectorOutcome) (parity : Option Nat) (order : ArrivalOrder) (joined : qualifies = true → s.joined = true)
    (still : ((inOrder order (arrivalMerge start x v qualifies) (monitorArrival x outcome parity) s).condition.get x).detected =
      (s.condition.get x).detected) :
    OneNotice s (inOrder order (arrivalMerge start x v qualifies) (monitorArrival x outcome parity) s) := by
  intro sound
  cases order with
  | mergeFirst =>
    have merged := arrivalMerge_sound start x v joined sound
    refine (arrivalMerge_oneNotice start x v joined sound).to_aside
      (monitorArrival_aside outcome parity ((restorationSound_iff _).1 merged).1 (still.trans ?_))
    exact (arrivalMerge_detected start x v qualifies s x).symm
  | monitorFirst =>
    obtain ⟨mode, profile⟩ := monitorArrival_mode x outcome parity s
    have monitored : Aside s (monitorArrival x outcome parity s) :=
      monitorArrival_aside outcome parity ((restorationSound_iff _).1 sound).1
        ((arrivalMerge_detected start x v qualifies _ x).symm.trans still)
    exact (arrivalMerge_oneNotice start x v fun merges => mode.trans (joined merges)).from_aside monitored profile sound

/-- The engines follow the arrival of a frame whose Span Monitor's event leaves the detected condition (R11, R110). -/
theorem frameArrival_oneNotice (x : Side) (f : LineFrame) (order : ArrivalOrder)
    (still : ((frameArrival x f order s).condition.get x).detected = (s.condition.get x).detected) :
    OneNotice s (frameArrival x f order s) := by
  have taken := arrivalTaken_aside s x f
  have before : (arrivalTaken x f s).condition = s.condition := by rw [taken]
  have joined : (arrivalTaken x f s).joined = s.joined := by rw [State.joined, taken]; rfl
  have routed := routeManagement_line_aside (arrivalWork x f order s) x f.management
  have after : (frameArrival x f order s).condition = (arrivalWork x f order s).condition := by
    rw [frameArrival_eq, routed]
  rw [after, ← before, arrivalWork_eq] at still
  rw [frameArrival_eq]
  refine OneNotice.to_aside ?_ routed
  rw [arrivalWork_eq]
  refine (inOrder_oneNotice _ x _ _ _ order (fun merges => ?_) still).from_aside taken (arrivalTaken_profile x f s)
  exact joined.trans (mergeable_joined merges)

/-- The arrival of a tributary frame touches the holder and the queues (R4). -/
theorem tributaryArrival_oneNotice (s : State) (f : TributaryFrame) : OneNotice s (tributaryArrival f s) := by
  have held : Aside s (s.setHolder (some f.slots)) := rfl
  have routed := routing_aside (routeManagement_frame f.management (s.setHolder (some f.slots)) routeTributaryCell_frame)
  exact (held.trans routed).oneNotice.guarded

end

end Sys2Proof.Machine

/-! PROOFS. The Loop Engines after every event with one chain of notices (O53). -/

namespace Sys2Proof.Machine

/-! ### Turns of the Agent -/

/-- What a row's service makes of the state hands at most one chain of notices. -/
def ServesOneNotice (serve : Port → Cell → State → State) : Prop :=
  ∀ q c s, OneNotice s (serve q c s)

section
variable {serve : Port → Cell → State → State}

theorem respond_oneNotice (q : Port) (c : Cell) (st : Status) (words : List Word) (s : State) :
    OneNotice s (respond q c st words s) :=
  (respond_aside q c st words s).oneNotice

theorem checked_oneNotice (h : ServesOneNotice serve) : ServesOneNotice (checked serve) := by
  intro q c s
  unfold checked
  split
  · exact h q c s
  · exact respond_oneNotice q c _ _ s

theorem addressed_oneNotice (h : ServesOneNotice serve) : ServesOneNotice (addressed serve) := by
  intro q c s
  unfold addressed
  split
  · exact respond_oneNotice q c _ _ s
  · exact h q c s

theorem serveRead_oneNotice : ServesOneNotice serveRead := by
  intro q c s
  unfold serveRead
  split <;> exact respond_oneNotice q c _ _ s

theorem serveReadClear_oneNotice : ServesOneNotice serveReadClear := by
  intro q c s
  unfold serveReadClear
  split
  · exact ((clearRead_aside _ _ _ s).trans (respond_aside q c _ _ _)).oneNotice
  · exact respond_oneNotice q c _ _ s

theorem serveCommit_oneNotice : ServesOneNotice serveCommit := by
  intro q c s
  unfold serveCommit
  split
  · exact Aside.oneNotice rfl
  · split
    · exact Aside.oneNotice rfl
    · exact respond_oneNotice q c _ _ s

/-- The words stored move no engine and no target, whatever they make of the Ring Map (R51). -/
theorem storeWords_oneNotice {s : State} {table index : Nat} {words : List Word}
    (passed : writeStatus s table index words = .done) : OneNotice s (storeWords s table index words) :=
  (storeWords_kept passed).oneNotice (by rw [storeWords_frame s]) (by rw [storeWords_frame s])

theorem serveWrite_oneNotice (form : Word → Word → Word) : ServesOneNotice (serveWrite form) := by
  intro q c s
  unfold serveWrite
  dsimp only
  split
  next passed => exact (storeWords_oneNotice passed).to_aside (respond_aside q c _ _ _)
  next => exact Aside.oneNotice rfl
  next => exact respond_oneNotice q c _ _ s

theorem serveCommand_oneNotice {accepted : State → Bool} {effect : State → State}
    (h : ∀ s, accepted s = true → OneNotice s (effect s)) : ServesOneNotice (serveCommand accepted effect) := by
  intro q c s
  unfold serveCommand
  split
  next yes => exact (h s yes).to_aside (respond_aside q c _ _ _)
  next => exact respond_oneNotice q c _ _ s

theorem turn_oneNotice (kind : Request) (h : ServesOneNotice serve) (s : State) : OneNotice s (turn kind serve s) := by
  unfold turn turnAs
  split
  next q c _ =>
    refine OneNotice.guarded (OneNotice.event (f := fun s => serve q c (takeRequest q s)) ?_)
    exact (h q c (takeRequest q s)).from_aside (takeRequest_aside q s) rfl
  next => exact Aside.oneNotice rfl

theorem turnReadClear_oneNotice (s : State) :
    OneNotice s (turnAs readClearEvent .readClear (checked (addressed serveReadClear)) s) := by
  unfold turnAs
  split
  next q c _ =>
    refine OneNotice.guarded (OneNotice.readClearEvent
      (f := fun s => checked (addressed serveReadClear) q c (takeRequest q s)) ?_)
    exact (checked_oneNotice (addressed_oneNotice serveReadClear_oneNotice) q c (takeRequest q s)).from_aside
      (takeRequest_aside q s) rfl
  next => exact Aside.oneNotice rfl

theorem command_oneNotice (kind : Request) {accepted : State → Bool} {effect : State → State}
    (h : ∀ s, accepted s = true → OneNotice s (effect s)) (s : State) :
    OneNotice s (turn kind (checked (serveCommand accepted effect)) s) :=
  turn_oneNotice kind (checked_oneNotice (serveCommand_oneNotice h)) s

theorem force_oneNotice (x : Side) (s : State) (yes : forceAccepted s = true) : OneNotice s (setCommand x .force s) :=
  setCommand_oneNotice x .force ((forceAccepted_iff s).1 yes).1

theorem manual_oneNotice (x : Side) (s : State) (yes : manualAccepted s = true) : OneNotice s (setCommand x .manual s) :=
  setCommand_oneNotice x .manual ((Bool.and_eq_true _ _).mp yes).1

end

/-! ### Every command -/

theorem takeSwap_oneNotice (s : State) : OneNotice s (takeSwap s) := by
  rcases takeSwap_cases s with same | ⟨pc, -, -, -, eq⟩
  · rw [same]
    exact Aside.oneNotice rfl
  · rw [eq]
    exact OneNotice.event (Aside.oneNotice rfl)

/-- The arrival of a frame as one event; the detected condition after it is that of its work. -/
theorem exec_frameArrival_oneNotice {s t : State} {x : Side} {f : LineFrame} {order : ArrivalOrder}
    (ran : exec (.alignedFrameArrival x f order) s = .next t)
    (still : (t.condition.get x).detected = (s.condition.get x).detected) : OneNotice s t := by
  have taken : (if receiving s x .aligned then event (frameArrival x f order) s else s) = t :=
    Host.Outcome.next.inj ran
  split at taken
  · subst taken
    rw [event_frame] at still
    exact (frameArrival_oneNotice x f order still).event
  · subst taken
    exact Aside.oneNotice rfl

/-- Every other command, but for those that the claim leaves out, hands at most one chain of notices. -/
theorem exec_oneNotice (c : Instr) (s : State) (stays : ¬c.resets) (unexpired : ∀ y, c ≠ .confirmTimerExpiry y)
    (between : ∀ part, c ≠ .localFrameStart part) (masked : ∀ y w, c = .presyncWordCheck y w → s.profile.settleTime ≠ 0)
    (silent : ∀ y f o, c ≠ .alignedFrameArrival y f o) : ∃ t, exec c s = .next t ∧ OneNotice s t := by
  cases c with
  | resetNAssert => exact absurd (.inl rfl) stays
  | resetNRelease straps => exact absurd (.inr ⟨straps, .inl rfl⟩) stays
  | restart straps => exact absurd (.inr ⟨straps, .inr rfl⟩) stays
  | confirmTimerExpiry y => exact absurd rfl (unexpired y)
  | localFrameStart part => exact absurd rfl (between part)
  | alignedFrameArrival y f o => exact absurd rfl (silent y f o)
  | commitSwap => exact ⟨_, rfl, takeSwap_oneNotice s⟩
  | losAssert x =>
    refine ⟨_, rfl, ?_⟩
    split
    · exact Aside.oneNotice rfl
    · split
      · exact (losRises_oneNotice s x).event
      · exact Aside.oneNotice rfl
  | losRelease x =>
    refine ⟨_, rfl, ?_⟩
    split
    · exact Aside.oneNotice rfl
    · split
      · exact (losFalls_oneNotice s x).event
      · exact Aside.oneNotice rfl
  | alignmentWordFound x =>
    have moved (u : State) : Aside u (u.updateReceiver x fun r => { r with align := .presync }) := rfl
    exact ⟨_, rfl, (moved s).oneNotice.event.guarded⟩
  | presyncWordCheck x word => exact ⟨_, rfl, (presyncWord_oneNotice x word (masked x word rfl)).event.guarded⟩
  | alignedWordCheck x word => exact ⟨_, rfl, (alignedWord_oneNotice s x word).event.guarded⟩
  | holdOffExpiry x => exact ⟨_, rfl, (holdOffExpires_oneNotice s x).event.guarded⟩
  | settleMaskExpiry x => exact ⟨_, rfl, (settleExpires_oneNotice s x).event.guarded⟩
  | wtrExpiry x => exact ⟨_, rfl, (wtrExpires_oneNotice x s).event.guarded⟩
  | tributaryFrameArrival frame => exact ⟨_, rfl, (tributaryArrival_oneNotice s frame).event.guarded⟩
  | read => exact ⟨_, rfl, turn_oneNotice _ (checked_oneNotice (addressed_oneNotice serveRead_oneNotice)) s⟩
  | write | set | clear =>
    exact ⟨_, rfl, turn_oneNotice _ (checked_oneNotice (addressed_oneNotice (serveWrite_oneNotice _))) s⟩
  | readClear => exact ⟨_, rfl, turnReadClear_oneNotice s⟩
  | commit => exact ⟨_, rfl, turn_oneNotice _ (checked_oneNotice serveCommit_oneNotice) s⟩
  | poll => exact ⟨_, rfl, turn_oneNotice _ (checked_oneNotice fun q c u => respond_oneNotice q c _ _ u) s⟩
  | forceEast => exact ⟨_, rfl, command_oneNotice _ (force_oneNotice .east) s⟩
  | forceWest => exact ⟨_, rfl, command_oneNotice _ (force_oneNotice .west) s⟩
  | manualEast => exact ⟨_, rfl, command_oneNotice _ (manual_oneNotice .east) s⟩
  | manualWest => exact ⟨_, rfl, command_oneNotice _ (manual_oneNotice .west) s⟩
  | park => exact ⟨_, rfl, command_oneNotice _ (fun _ => setParkCommand_oneNotice true) s⟩
  | clearPark => exact ⟨_, rfl, command_oneNotice _ (fun _ => setParkCommand_oneNotice false) s⟩
  | clearEast => exact ⟨_, rfl, command_oneNotice _ (fun u _ => clearSide_oneNotice .east u) s⟩
  | clearWest => exact ⟨_, rfl, command_oneNotice _ (fun u _ => clearSide_oneNotice .west u) s⟩
  | join => exact ⟨_, rfl, command_oneNotice _ (fun u yes => joinEffect_oneNotice ((joinAccepted_iff u).1 yes)) s⟩
  | leave => exact ⟨_, rfl, command_oneNotice _ (fun _ => leaveEffect_oneNotice) s⟩
  | noticeSendAttempt => exact ⟨_, rfl, (sendAttempt_aside s).oneNotice.event.guarded⟩
  | unknownOperation | unknownCommand =>
    exact ⟨_, rfl, turn_oneNotice _ (checked_oneNotice fun q c u => respond_oneNotice q c _ _ u) s⟩

/-- Settles O53: each of these events hands at most one chain of notices, or, at a JOIN, notices that one would equal; and one
notice is the target change and then the partner test. -/
theorem enginesFollowTheTable : Obligations.EnginesFollowTheTable := by
  intro s t c x sound ran stays unexpired between masked still
  have follows : OneNotice s t := by
    by_cases arrives : ∃ y f o, c = .alignedFrameArrival y f o
    · obtain ⟨y, f, o, rfl⟩ := arrives
      exact exec_frameArrival_oneNotice ran (still y f o rfl)
    · push Not at arrives
      obtain ⟨u, ran', follows⟩ := exec_oneNotice c s stays unexpired between masked arrives
      cases ran'.symm.trans ran
      exact follows
  rw [farAction_eq, Engine.moved_eq]
  exact follows sound x

end Sys2Proof.Machine

/-! PROOFS. The slots and the squelch results of a local frame start: line slots (O14), tributary slots (O15), squelch (O16). -/

namespace Sys2Proof.Machine

/-! ### The frames of a local frame start at hand (R1, R19, R139, R144; log 6) -/

/-- The state whose frames are built: the local frame start is issued where that has not been taken yet. -/
def State.issued (s : State) : State :=
  if s.instant.begun then s else issueFrameStart s

theorem State.issued_frame (s : State) :
    s.issued = { s with
      frameCount := s.issued.frameCount, instant := s.issued.instant, monitor := s.issued.monitor
      condition := s.issued.condition, engine := s.issued.engine } := by
  unfold State.issued
  split <;> rfl

/-- An issue counts the confirm timers and moves no engine. -/
theorem State.issued_phase (s : State) (x : Side) : (s.issued.engine.get x).phase = (s.engine.get x).phase := by
  unfold State.issued
  split
  · rfl
  · cases x <;> rfl

/-- The squelch test reads the engines' states, the Resolver, the Ring Map and the active Circuit Table. -/
theorem squelchTests_congr {s t : State} (phase : ∀ x, (t.engine.get x).phase = (s.engine.get x).phase)
    (resolver : t.resolver = s.resolver) (ringMap : t.ringMap = s.ringMap) (tables : t.tables = s.tables) :
    t.squelchTests = s.squelchTests := by
  unfold State.squelchTests State.squelchTest State.faultySide State.squelched State.unmapped State.inOwnSegment State.circuitOf
  simp only [phase, resolver, ringMap, tables]

theorem State.issued_squelchTests (s : State) : s.issued.squelchTests = s.squelchTests :=
  squelchTests_congr s.issued_phase (by rw [s.issued_frame]) (by rw [s.issued_frame]) (by rw [s.issued_frame])

/-- The state that the frames are built from: the squelch results are those of the same local frame start (R144). -/
def State.framed (s : State) : State := s.issued.setSquelch s.squelchTests

@[simp] theorem State.framed_squelch (s : State) : s.framed.squelch = s.squelchTests := rfl

@[simp] theorem State.framed_phase (s : State) (x : Side) : (s.framed.engine.get x).phase = (s.engine.get x).phase :=
  s.issued_phase x

@[simp] theorem State.framed_resolver (s : State) : s.framed.resolver = s.resolver := by
  rw [State.framed, State.setSquelch_resolver, s.issued_frame]

@[simp] theorem State.framed_tables (s : State) : s.framed.tables = s.tables := by
  rw [State.framed, State.setSquelch_tables, s.issued_frame]

@[simp] theorem State.framed_slotRecord (s : State) (x : Side) (k : Nat) : s.framed.slotRecord x k = s.slotRecord x k := by
  simp [State.slotRecord]

@[simp] theorem State.framed_extraRecord (s : State) (x : Side) (k : Nat) : s.framed.extraRecord x k = s.extraRecord x k := by
  simp [State.extraRecord]

/-- The reads are those of the buffers and the holder as they stood. -/
theorem State.framed_inputs (s : State) : readInputs s.framed = readInputs s := by
  unfold readInputs
  rw [State.framed, State.setSquelch_buffer, State.setSquelch_holder, s.issued_frame]

/-- The frames that are begun are those built, whatever the reads and the removals do to the queues. -/
theorem buildFrames_sent (s : State) :
    (buildFrames s).sent =
      some (builtFrames (s.setSquelch s.squelchTests) (readInputs (s.setSquelch s.squelchTests))) := by
  unfold buildFrames
  rw [removeCell_frame, removeCell_frame, removeCell_frame]
  rfl

theorem buildFrames_squelch (s : State) : (buildFrames s).squelch = s.squelchTests := by
  unfold buildFrames
  rw [removeCell_frame, removeCell_frame, removeCell_frame]
  show (readBuffer .west (readBuffer .east (s.setSquelch s.squelchTests))).squelch = _
  rw [readBuffer_frame, readBuffer_frame]
  rfl

/-- What a local frame start leaves of the squelch results and of the frames sent. -/
theorem exec_frames {s : State} (high : s.resetN = true) (due : FrameStartDue s) :
    ∃ t, exec (.localFrameStart .frames) s = .next t ∧ t.squelch = s.squelchTests ∧
      t.sent = some (builtFrames s.framed (readInputs s)) := by
  refine ⟨event (fun u => buildFrames (if s.instant.begun then u else issueFrameStart u)) s, ?_, ?_, ?_⟩
  · show Host.Outcome.next (if s.resetN then _ else _) = _
    rw [if_pos high, frameStart_frames due]
  · rw [event_frame]
    exact (buildFrames_squelch s.issued).trans s.issued_squelchTests
  · rw [event_frame, ← s.framed_inputs]
    refine (buildFrames_sent s.issued).trans ?_
    rw [s.issued_squelchTests]
    rfl

/-! ### The slots read at a local frame start (R3, R14 to R16, R19) -/

theorem Buffer.read_received (s : State) (x : Side) : (s.buffer.get x).read.1 = s.received x := by
  unfold Buffer.read State.received
  split <;> simp_all

theorem readInputs_line (s : State) (x : Side) : (readInputs s).line x = s.received x := by
  rw [← Buffer.read_received]
  cases x <;> rfl

@[simp] theorem readInputs_working (s : State) (x : Side) (k : Fin 32) :
    (readInputs s).working x k.val = s.workingIn x k := by
  unfold Inputs.working State.workingIn
  rw [readInputs_line, elementAt_of_lt _ k.isLt]
  rfl

@[simp] theorem readInputs_protection (s : State) (x : Side) (k : Fin 32) :
    (readInputs s).protection x k.val = s.protectionIn x k := by
  unfold Inputs.protection State.protectionIn
  rw [readInputs_line, elementAt_of_lt _ k.isLt]
  rfl

@[simp] theorem readInputs_added (s : State) (u : Fin 64) : (readInputs s).added u = s.tributaryIn u := rfl

/-! ### The slots sent on the lines (R140, R142, R143) -/

theorem Phase.active_iff (p : Phase) : p.active = true ↔ p ≠ .idle := by simp [Phase.active]

/-- Working slot k of a side as taken by the squelch results of the same local frame start (R140). -/
@[simp] theorem takenWorking_framed (s : State) (x : Side) (k : Fin 32) :
    takenWorking s.framed (readInputs s) x k.val = s.taken s.squelchTests.results x k := by
  simp [takenWorking, State.taken, Squelch.at]

theorem workingOut_framed (s : State) (x : Side) (k : Fin 32) :
    workingOut s.framed (readInputs s) x k.val =
      (s.slotRecord x k).output (readInputs s) (s.taken s.squelchTests.results x.other k) := by
  rw [workingOut, State.framed_slotRecord, takenWorking_framed]

theorem protectionOut_framed (s : State) (x : Side) (k : Fin 32) :
    protectionOut s.framed (readInputs s) x k.val =
      if (s.engine.get x.other).phase ≠ .idle then
        if (s.squelchTests.results.get x.other).getLsbD k then Slot.fill
        else workingOut s.framed (readInputs s) x.other k.val
      else if (s.engine.get x).phase ≠ .idle then Slot.fill
      else if s.resolver.role = .normal then (s.extraRecord x k).output (readInputs s) (s.protectionIn x.other k)
      else s.protectionIn x.other k := by
  have bridges (y : Side) : (s.framed.engine.get y).phase.active = true ↔ (s.engine.get y).phase ≠ .idle := by
    rw [Phase.active_iff, State.framed_phase]
  unfold protectionOut
  rw [State.framed_extraRecord, State.framed_resolver, readInputs_protection]
  exact if_congr (bridges x.other) rfl (if_congr (bridges x) rfl rfl)

theorem builtFrames_slots (s : State) (i : Inputs) (x : Side) : ((builtFrames s i).line x).slots = lineOut s i x := by
  cases x <;> rfl

theorem lineOut_working (s : State) (i : Inputs) (x : Side) (k : Fin 32) : (lineOut s i x).working[k] = workingOut s i x k :=
  Vector.getElem_ofFn k.isLt

theorem lineOut_protection (s : State) (i : Inputs) (x : Side) (k : Fin 32) :
    (lineOut s i x).protection[k] = protectionOut s i x k :=
  Vector.getElem_ofFn k.isLt

/-- Settles O14: every line slot is built from the state framed, whose squelch results are those of this local frame start. -/
theorem lineSlotsSent : Obligations.LineSlotsSent := by
  intro s high due
  obtain ⟨t, ran, squelch, sent⟩ := exec_frames high due
  refine ⟨t, ran, _, sent, fun x k => ?_⟩
  rw [squelch, builtFrames_slots, builtFrames_slots, lineOut_working, lineOut_working, lineOut_protection]
  exact ⟨workingOut_framed s x k, protectionOut_framed s x k⟩

/-! ### Tributary slots (R141) -/

/-- The place of an active record among those that `activeDrops` lists: the Slot Map's before the Extra Map's. -/
def recordPlace (extra : Bool) (x : Side) (k : Fin 32) : Nat :=
  (if extra then 64 else 0) + recordIndex x k

/-- The active record of slot k of a side in the Slot Map or in the Extra Map. -/
def State.activeRecord (s : State) (extra : Bool) (x : Side) (k : Fin 32) : SlotRecord :=
  if extra then s.extraRecord x k else s.slotRecord x k

theorem recordIndex_lt (x : Side) (k : Fin 32) : recordIndex x k < 64 := by
  cases x <;> simp only [recordIndex] <;> omega

theorem activeRecord_mem (s : State) (extra : Bool) (x : Side) (k : Fin 32) :
    (s.tables.slot.active.toList ++ s.tables.extra.active.toList)[recordPlace extra x k]? =
      some (s.activeRecord extra x k) := by
  have within := recordIndex_lt x k
  cases extra
  · simp [recordPlace, State.activeRecord, State.slotRecord, elementAt, within, List.getElem?_append_left]
  · simp [recordPlace, State.activeRecord, State.extraRecord, elementAt, within, List.getElem?_append_right]

theorem recordPlace_injective {a b : Bool} {x y : Side} {k j : Fin 32} (h : recordPlace a x k = recordPlace b y j) :
    a = b ∧ x = y ∧ k = j := by
  have := recordIndex_lt x k
  have := recordIndex_lt y j
  cases a <;> cases b <;> cases x <;> cases y <;> simp [recordPlace, recordIndex] at * <;> omega

/-- Where the values that a list's members give are distinct, two members that give the same value stand at one place. -/
theorem filterMap_nodup_place {α β : Type} {f : α → Option β} {l : List α} (nodup : (l.filterMap f).Nodup) {i j : Nat}
    {a b : α} {v : β} (atI : l[i]? = some a) (atJ : l[j]? = some b) (fromA : f a = some v) (fromB : f b = some v) : i = j := by
  have apart := List.pairwise_iff_getElem.1 (List.pairwise_filterMap.1 nodup)
  obtain ⟨hi, rfl⟩ := List.getElem?_eq_some_iff.1 atI
  obtain ⟨hj, rfl⟩ := List.getElem?_eq_some_iff.1 atJ
  rcases Nat.lt_trichotomy i j with lt | eq | gt
  · exact absurd rfl (apart i j hi hj lt v fromA v fromB)
  · exact eq
  · exact absurd rfl (apart j i hj hi gt v fromB v fromA)

/-- At most one active record names a tributary as its drop (R135, R137, R141). -/
theorem activeDrop_unique {s : State} (nodup : s.tables.activeDrops.Nodup) {u : Fin 64} {a b : Bool} {x y : Side}
    {k j : Fin 32} (first : (s.activeRecord a x k).drop = some u) (second : (s.activeRecord b y j).drop = some u) :
    a = b ∧ x = y ∧ k = j :=
  recordPlace_injective
    (filterMap_nodup_place nodup (activeRecord_mem s a x k) (activeRecord_mem s b y j) first second)

theorem dropSlot_some {record : Nat → SlotRecord} {u : Fin 64} {k : Fin 32} (named : (record k).drop = some u)
    (sole : ∀ j : Fin 32, (record j).drop = some u → j = k) : dropSlot record u = some k.val := by
  cases found : dropSlot record u with
  | none => exact absurd named (by simpa using List.find?_eq_none.1 found k (List.mem_range.2 k.isLt))
  | some j =>
    have drop : (record j).drop = some u := by simpa using List.find?_some found
    have below : j < 32 := List.mem_range.1 (List.mem_of_find?_eq_some found)
    exact congrArg (some ·.val) (sole ⟨j, below⟩ drop)

theorem dropSlot_none {record : Nat → SlotRecord} {u : Fin 64} (unnamed : ∀ j : Fin 32, (record j).drop ≠ some u) :
    dropSlot record u = none :=
  List.find?_eq_none.2 fun j mem => by simpa using unnamed ⟨j, List.mem_range.1 mem⟩

/-- The first record in the order of the Slot Map before the Extra Map, East before West, that names a tributary. -/
theorem dropSlot_activeRecord {s : State} (nodup : s.tables.activeDrops.Nodup) {u : Fin 64} {extra : Bool} {x : Side}
    {k : Fin 32} (named : (s.activeRecord extra x k).drop = some u) (b : Bool) (y : Side) :
    dropSlot (if b then s.extraRecord y else s.slotRecord y) u = if b = extra ∧ y = x then some k.val else none := by
  have record (j : Fin 32) : (if b then s.extraRecord y else s.slotRecord y) j.val = s.activeRecord b y j := by
    unfold State.activeRecord
    split <;> rfl
  by_cases same : b = extra ∧ y = x
  · rw [if_pos same]
    obtain ⟨rfl, rfl⟩ := same
    refine dropSlot_some ((congrArg _ (record k)).trans named) fun j drop => ?_
    exact (activeDrop_unique nodup ((congrArg _ (record j)).symm.trans drop) named).2.2
  · rw [if_neg same]
    refine dropSlot_none fun j drop => same ?_
    obtain ⟨bank, side, -⟩ := activeDrop_unique nodup ((congrArg _ (record j)).symm.trans drop) named
    exact ⟨bank, side⟩

/-- The tributary slot that a record of the Slot Map or of the Extra Map drops to (R141). -/
theorem tributarySlotOut_of_drop {s : State} (nodup : s.tables.activeDrops.Nodup) {u : Fin 64} {extra : Bool} {x : Side}
    {k : Fin 32} (named : (s.activeRecord extra x k).drop = some u) :
    tributarySlotOut s.framed (readInputs s) u =
      if extra then if s.resolver.role = .normal then s.protectionIn x.other k else Slot.fill
      else s.taken s.squelchTests.results x.other k := by
  have found := dropSlot_activeRecord nodup named
  have slotEast := found false .east
  have slotWest := found false .west
  have extraEast := found true .east
  have extraWest := found true .west
  have slots (y : Side) : s.framed.slotRecord y = s.slotRecord y := funext (s.framed_slotRecord y)
  have extras (y : Side) : s.framed.extraRecord y = s.extraRecord y := funext (s.framed_extraRecord y)
  simp only [Bool.false_eq_true, if_false, if_true] at slotEast slotWest extraEast extraWest
  unfold tributarySlotOut
  rw [slots, slots, extras, extras, slotEast, slotWest, extraEast, extraWest]
  cases extra <;> cases x <;> simp [Side.other]

theorem tributarySlotOut_of_none {s : State} {u : Fin 64}
    (unnamed : ∀ (x : Side) (k : Fin 32), (s.slotRecord x k).drop ≠ some u ∧ (s.extraRecord x k).drop ≠ some u)
    (i : Inputs) : tributarySlotOut s.framed i u = Slot.fill := by
  have slot (x : Side) : dropSlot (s.framed.slotRecord x) u = none :=
    dropSlot_none fun j => by simpa using (unnamed x j).1
  have extra (x : Side) : dropSlot (s.framed.extraRecord x) u = none :=
    dropSlot_none fun j => by simpa using (unnamed x j).2
  simp only [tributarySlotOut, slot, extra]

theorem builtFrames_tributary (s : State) (i : Inputs) (u : Fin 64) :
    (builtFrames s i).tributary.slots[u] = tributarySlotOut s i u :=
  Vector.getElem_ofFn u.isLt

/-- Settles O15: the record that names the tributary is the only one, so each clause decides the search of R141. -/
theorem tributarySlotsSent : Obligations.TributarySlotsSent := by
  intro s u high due nodup
  obtain ⟨t, ran, squelch, sent⟩ := exec_frames high due
  refine ⟨t, ran, _, sent, ?_⟩
  rw [squelch, builtFrames_tributary]
  exact ⟨fun x k named => tributarySlotOut_of_drop (extra := false) nodup named,
    fun x k named => tributarySlotOut_of_drop (extra := true) nodup named, fun unnamed => tributarySlotOut_of_none unnamed _⟩

/-! ### The squelch results (R144 to R146) -/

theorem inOwnSegment_of_unmapped {s : State} {id : Nat} (unmapped : s.ringMap.positionOf id = none) :
    s.inOwnSegment id = false := by
  unfold State.inOwnSegment
  rw [unmapped]
  split <;> simp_all

theorem squelched_iff (s : State) (x : Side) (k : Nat) :
    s.squelched x k = true ↔ s.circuitOf x k = none ∨ ∃ c, s.circuitOf x k = some c ∧
      (c.restore = false ∨ s.ringMap.positionOf c.origin = none ∨ s.ringMap.positionOf c.terminus = none ∨
        s.inOwnSegment c.origin = false ∨ s.inOwnSegment c.terminus = false) := by
  unfold State.squelched
  cases s.circuitOf x k with
  | none => simp
  | some c =>
    have origin := inOwnSegment_of_unmapped (s := s) (id := c.origin)
    have terminus := inOwnSegment_of_unmapped (s := s) (id := c.terminus)
    simp only [reduceCtorEq, Option.some.injEq, exists_eq_left', Bool.or_eq_true, Bool.not_eq_true', false_or]
    tauto

theorem unmapped_iff (s : State) (x : Side) (k : Nat) :
    s.unmapped x k = true ↔ ∃ c, s.circuitOf x k = some c ∧
      (s.ringMap.positionOf c.origin = none ∨ s.ringMap.positionOf c.terminus = none) := by
  unfold State.unmapped
  cases s.circuitOf x k <;> simp

theorem squelchTest_getLsbD (s : State) (x : Side) (k : Fin 32) :
    (s.squelchTest x).getLsbD k = true ↔ (s.engine.get x).phase ≠ .idle ∧ s.squelched x k = true := by
  unfold State.squelchTest
  rw [← Phase.active_iff]
  split
  next tested => simp [tested]
  next untested => simp [untested]

theorem faultySide_iff (s : State) (x : Side) :
    s.faultySide x = true ↔ ∃ k : Fin 32, (s.engine.get x).phase ≠ .idle ∧ s.unmapped x k = true := by
  unfold State.faultySide
  rw [Bool.and_eq_true, Phase.active_iff, List.any_eq_true, exists_and_left, Fin.exists_iff]
  simp only [List.mem_range, exists_prop]

theorem exists_side {p : Side → Prop} : (∃ x, p x) ↔ p .east ∨ p .west :=
  ⟨fun ⟨x, h⟩ => by cases x <;> simp [h], fun h => h.elim (⟨_, ·⟩) (⟨_, ·⟩)⟩

theorem squelchTests_results (s : State) (x : Side) : s.squelchTests.results.get x = s.squelchTest x := by
  cases x <;> rfl

theorem squelchTests_squelching (s : State) :
    s.squelchTests.squelching = true ↔ ∃ (x : Side) (k : Fin 32), (s.squelchTests.results.get x).getLsbD k = true := by
  simp only [exists_side, ← exists_getLsbD_of_ne_zero]
  show (_ != _ || _ != _) = true ↔ _
  simp [squelchTests_results]

theorem squelchTests_tableFault (s : State) :
    s.squelchTests.tableFault = true ↔ ∃ x, s.faultySide x = true := by
  rw [exists_side]
  exact Bool.or_eq_true _ _ ▸ Iff.rfl

/-- Settles O16, from what one slot's test says (R144) and one side's fault (R146). -/
theorem squelchResultsFormed : Obligations.SquelchResultsFormed := by
  intro s high due
  obtain ⟨t, ran, squelch, -⟩ := exec_frames high due
  refine ⟨t, ran, ?_⟩
  rw [squelch]
  refine ⟨fun x k => ?_, squelchTests_squelching s, ?_⟩
  · rw [squelchTests_results, squelchTest_getLsbD, squelched_iff]
  · simp only [squelchTests_tableFault, faultySide_iff, unmapped_iff]

end Sys2Proof.Machine

/-! PROOFS. The Table Store and the requests that write it: the swap (O18), COMMIT (O43), and WRITE, SET and CLEAR (O38). -/

namespace Sys2Proof.Machine

/-! ### Events that leave the own entries as they stood -/

/-- Such an event touches, besides its work, the Event Unit's registers, ALERT_N and the transmit queues. -/
theorem event_frame_of_own {f : State → State} {s : State} (own : (f s).signalling.own = s.signalling.own) :
    event f s =
      { f s with transmit := (event f s).transmit, events := (event f s).events, alertN := (event f s).alertN } := by
  conv_lhs => rw [event, advanceEditions_same own, observe_frame]
  rw [event, advanceEditions_same own]
  conv_rhs => rw [observe_frame]

/-! ### The swap (R137) -/

/-- A swap touches the banks, the Table Store's turn, the queue with the reserved place and a pulse. -/
theorem swapTables_eq (pc : PendingCommit) (s : State) :
    swapTables pc s = { s with
      tables := ⟨⟨s.tables.slot.standby, s.tables.slot.standby⟩, ⟨s.tables.extra.standby, s.tables.extra.standby⟩,
        ⟨s.tables.circuit.standby, s.tables.circuit.standby⟩, none, s.tables.retryFlag⟩
      instant := { s.instant with swapTurn := false }
      transmit := s.transmit.set pc.port
        { cells := (s.transmit.get pc.port).cells ++
            [responseCell pc.port pc.request s.profile.responseHop pc.sourceId pc.request.count .done []]
          reserved := (s.transmit.get pc.port).reserved - 1 }
      events := { s.events with pulses := s.events.pulses ||| (1#32 <<< 28) } } := rfl

theorem exec_commitSwap {s : State} {pc : PendingCommit} (high : s.resetN = true) (pending : s.tables.commit = some pc) :
    exec .commitSwap s = .next (if s.instant.swapTurn then event (swapTables pc) s else s) := by
  show Host.Outcome.next (takeSwap s) = _
  unfold takeSwap
  rw [pending]
  simp [high]

theorem swapTables_reported (pc : PendingCommit) {s : State} (sound : EventsSound s) :
    Reported s.events (1#32 <<< 28)
      (s.transmit.set pc.port
        { cells := (s.transmit.get pc.port).cells ++
            [responseCell pc.port pc.request s.profile.responseHop pc.sourceId pc.request.count .done []]
          reserved := (s.transmit.get pc.port).reserved - 1 }) (event (swapTables pc) s) := by
  have reported := event_reported (swapTables pc) s rfl rfl ⟨rfl, rfl, rfl, rfl⟩ rfl rfl
  rw [swapTables_eq] at reported
  simpa only [sound.pulses, BitVec.zero_or] using reported

/-- Settles O18: at the Table Store's turn the swap is one event, and at no other time is it any. -/
theorem commitSwapActivatesStandby : Obligations.CommitSwapActivatesStandby := by
  intro s pc high sound pending
  rw [exec_commitSwap high pending]
  refine ⟨fun taken => by simp [taken], fun turn => ⟨event (swapTables pc) s, by rw [if_pos turn], ?_⟩⟩
  have frame := event_frame_of_own (f := swapTables pc) (s := s) rfl
  refine ⟨by rw [frame]; rfl, swapTables_reported pc sound, by rw [frame]; rfl, ?_⟩
  conv_lhs => rw [frame]
  rw [frame]
  rfl

/-! ### Requests answered RETRY (R136) -/

/-- The state after the work of a turn that answers RETRY: the retries counter, the retry flag and the answer (R136, R158). -/
def State.retried (s : State) (q : Port) (c : Cell) : State :=
  { s.answered q c .retry [] with
    counters := s.counters.set Counter.retries.index (advanced s.counters[Counter.retries.index] 1)
    tables := { s.tables with retryFlag := true } }

theorem respond_countRetry (s : State) (q : Port) (c : Cell) :
    respond q c .retry [] (countRetry (takeRequest q s)) = s.retried q c :=
  respond_takeRequest (countRetry s) q c .retry []

/-- An event with that work, which WRITE, SET, CLEAR and COMMIT share, is what R136 says. -/
theorem event_retried {s : State} (sound : EventsSound s) (q : Port) (c : Cell) :
    Retried s (event (fun _ => s.retried q c) s) q c := by
  have reported := event_reported (fun _ => s.retried q c) s rfl rfl ⟨rfl, rfl, rfl, rfl⟩ rfl rfl
  have frame := event_frame_of_own (f := fun _ => s.retried q c) (s := s) rfl
  generalize event (fun _ => s.retried q c) s = t at *
  have counters : t.counters = (s.retried q c).counters := by rw [frame]
  refine ⟨fun k => ?_, sound.pulses ▸ reported, ?_⟩
  · have bumped : t.count k = (s.bump .retries 1).count k := by
      rw [State.count, counters]
      rfl
    rw [bumped, State.count_bump]
    exact ite_congr rfl (fun counted => by rw [counted]) fun _ => rfl
  · rw [counters]
    exact frame

/-- A turn whose work does nothing but answer its request (R157, R158). -/
theorem event_only_answered {s : State} (sound : EventsSound s) (q : Port) (c : Cell) (st : Status) (words : List Word) :
    event (fun _ => respond q c st words (takeRequest q s)) s = s.answered q c st words :=
  (event_congr rfl).trans (event_answered sound q c st words)

/-! ### COMMIT (R135, R136) -/

theorem exec_commit {s v : State} {q : Port} {c : Cell} (takes : TurnTakes s .commit q c)
    (served : serveCommit q c (takeRequest q s) = v) : exec .commit s = .next (event (fun _ => v) s) := by
  obtain ⟨high, due, kind, data⟩ := takes
  show Host.Outcome.next (turn .commit (checked serveCommit) s) = _
  rw [turn_due high due kind]
  exact congrArg _ (event_congr (by simpa [checked, data] using served))

theorem serveCommit_pending {s : State} (pending : s.tables.commit ≠ none) (q : Port) (c : Cell) :
    serveCommit q c (takeRequest q s) = s.retried q c :=
  (if_pos (Option.isSome_iff_ne_none.2 pending)).trans (respond_countRetry s q c)

/-- The state after the work of a turn whose COMMIT waits: the flag is set, and the place stays reserved (R136, R157). -/
def State.committed (s : State) (q : Port) (c : Cell) : State :=
  { s with
    requests := s.requestsTaken q, pointer := nextPort q
    tables := { s.tables with commit := some ⟨q, c, s.identity.nodeId⟩ }
    transmit := s.transmit.set q { s.transmit.get q with reserved := (s.transmit.get q).reserved + 1 } }

/-- With no commit pending the validation decides (R135). -/
theorem serveCommit_free {s : State} (free : s.tables.commit = none) (q : Port) (c : Cell) :
    serveCommit q c (takeRequest q s) =
      if s.tables.standbyDrops.Nodup then s.committed q c else respond q c .invalid [] (takeRequest q s) := by
  have unlocked : ¬ (takeRequest q s).tables.commit.isSome = true := fun set =>
    Option.isSome_iff_ne_none.1 set free
  unfold serveCommit
  rw [if_neg unlocked]
  exact if_congr (Tables.validates_iff _) rfl rfl

/-- A COMMIT that waits gives the Event Unit nothing to do. -/
theorem event_committed {s : State} (sound : EventsSound s) (q : Port) (c : Cell) :
    event (fun _ => s.committed q c) s = s.committed q c := by
  have live : liveValues (s.committed q c) = s.events.held :=
    (liveValues_congr rfl rfl rfl rfl rfl rfl rfl rfl).trans sound.held.symm
  rw [event_quiet (f := fun _ => s.committed q c) (s := s) live sound.pulses rfl]
  show { s.committed q c with alertN := s.events.latches &&& s.events.alert == 0#32 } = _
  rw [sound.level]
  rfl

/-- Settles O43: the validation passes exactly where every tributary is named at most once. -/
theorem commitRequestAnswered : Obligations.CommitRequestAnswered := by
  intro s q c sound takes
  refine ⟨fun pending => ⟨_, exec_commit takes (serveCommit_pending pending q c), event_retried sound q c⟩,
    fun free twice => ?invalid, fun free once => ?valid⟩
  case invalid =>
    have fails : ¬ s.tables.standbyDrops.Nodup := fun nodup => by
      obtain ⟨u, more⟩ := twice
      exact absurd (List.nodup_iff_count_le_one.1 nodup u) (Nat.not_le.2 more)
    rw [exec_commit takes ((serveCommit_free free q c).trans (if_neg fails)), event_only_answered sound]
  case valid =>
    have passes : s.tables.standbyDrops.Nodup := List.nodup_iff_count_le_one.2 once
    rw [exec_commit takes ((serveCommit_free free q c).trans (if_pos passes)), event_committed sound]
    rfl

/-! ### WRITE, SET and CLEAR (R133, R161) -/

/-- How a row forms each new word from the word held and the data word (R161). -/
def formOf : Request → Word → Word → Word
  | .set => fun held mask => held ||| mask
  | .clear => fun held mask => held &&& ~~~mask
  | _ => fun _ data => data

theorem exec_writes {s v : State} {k : Request} {q : Port} {c : Cell} (straps : BitVec 6) (takes : TurnTakes s k q c)
    (writes : k ∈ [Request.write, .set, .clear]) (test : tableTest c = none)
    (served : serveWrite (formOf k) q c (takeRequest q s) = v) :
    exec (k.row straps) s = .next (event (fun _ => v) s) := by
  obtain ⟨high, due, kind, data⟩ := takes
  have turned : turn k (checked (addressed (serveWrite (formOf k)))) s = event (fun _ => v) s := by
    rw [turn_due high due kind]
    exact event_congr (by simpa [checked, data, addressed, test] using served)
  rw [← turned]
  fin_cases writes <;> rfl

theorem tableTest_none {c : Cell} (table : c.table.toNat ≤ 12) (least : 1 ≤ c.count.toNat) (most : c.count.toNat ≤ 8) :
    tableTest c = none := by
  unfold tableTest
  rw [if_neg (by omega), if_neg (by omega)]

/-- The words that a row forms are those asked for: a count of at most 8 names as many data words (R149, R161). -/
theorem newWords_eq {s : State} {k : Request} {c : Cell} (writes : k ∈ [Request.write, .set, .clear])
    (most : c.count.toNat ≤ 8) : newWords (formOf k) c s = s.requestedWords k c := by
  unfold newWords State.requestedWords Cell.named
  refine List.ext_getElem (by simp [most]) fun j named within => ?_
  have place : j < c.data.toList.length := by
    rw [List.length_map, List.length_range] at within
    rw [Vector.length_toList]
    omega
  simp only [List.getElem_map, List.getElem_zipIdx, List.getElem_take, List.getElem_range, Nat.zero_add,
    List.getD_eq_getElem _ _ place]
  fin_cases writes <;> rfl

/-- A word is stored where no request, queue or pointer stands. -/
theorem storeWord_takeRequest (q : Port) (s : State) (table i : Nat) (w : Word) :
    storeWord (takeRequest q s) table i w = takeRequest q (storeWord s table i w) := by
  unfold storeWord
  repeat' split
  all_goals rfl

theorem storeWords_takeRequest (q : Port) (s : State) (table index : Nat) (words : List Word) :
    storeWords (takeRequest q s) table index words = takeRequest q (storeWords s table index words) := by
  induction words generalizing s index with
  | nil => rfl
  | cons w words ih => rw [storeWords_cons, storeWords_cons, storeWord_takeRequest, ih]

/-- What the turn of a write leaves, by its status: taking the request moves nothing that its words, its checks or its stores
read (R133, R136, R161). -/
theorem serveWrite_takeRequest {s : State} {form : Word → Word → Word} {q : Port} {c : Cell} {words : List Word}
    (asked : newWords form c s = words) :
    let st := writeStatus s c.table.toNat c.index.toNat words
    let u := storeWords s c.table.toNat c.index.toNat words
    serveWrite form q c (takeRequest q s) =
      if st = .done then u.answered q c .done (readWords u c.table.toNat c.index.toNat c.count.toNat)
      else if st = .retry then s.retried q c
      else respond q c st [] (takeRequest q s) := by
  intro st u
  have words_eq : newWords form c (takeRequest q s) = words := asked
  have status_eq : writeStatus (takeRequest q s) c.table.toNat c.index.toNat words = st := rfl
  unfold serveWrite
  dsimp only
  rw [words_eq, storeWords_takeRequest, status_eq]
  cases st with
  | done =>
    have shown : readWords (takeRequest q u) c.table.toNat c.index.toNat c.count.toNat =
        readWords u c.table.toNat c.index.toNat c.count.toNat := rfl
    rw [if_pos rfl, ← shown]
    exact respond_takeRequest u q c .done _
  | retry => exact respond_countRetry s q c
  | refused | range | invalid | check | unknown => rfl

/-- The words stored and the request answered: the Event Unit finds nothing to do but to form ALERT_N (R169, R172). -/
theorem event_stored {s u : State} (sound : EventsSound s) (stored : StoredFrame s u) (q : Port) (c : Cell)
    (words : List Word) :
    event (fun _ => u.answered q c .done words) s =
      { u.answered q c .done words with alertN := u.events.latches &&& u.events.alert == 0#32 } := by
  have held : u.events.held = s.events.held := by rw [stored]
  have pulses : u.events.pulses = 0#32 := by rw [stored, ← sound.pulses]
  have own : u.signalling.own = s.signalling.own := by rw [stored]
  have live : liveValues (u.answered q c .done words) = u.events.held := by
    rw [held, sound.held]
    refine liveValues_congr ?_ ?_ ?_ ?_ ?_ ?_ ?_ ?_ <;> (rw [stored]; rfl)
  exact event_quiet (f := fun _ => u.answered q c .done words) live pulses own

/-- Settles O38, status by status. -/
theorem writeSetClearAnswer : Obligations.WriteSetClearAnswer := by
  intro s k q c straps sound takes writes table least most words st s1
  have run {v : State} := exec_writes (v := v) straps takes writes (tableTest_none table least most)
  have served := serveWrite_takeRequest (q := q) (newWords_eq (s := s) writes most)
  refine ⟨fun done => ?_, fun notDone notRetry => ?_, fun retry => ?_⟩
  · rw [run (served.trans (if_pos done)), event_stored sound (storeWords_stored s _ _ _)]
  · rw [run (served.trans ((if_neg notDone).trans (if_neg notRetry))), event_only_answered sound]
  · have notDone : st ≠ .done := by rw [retry]; decide
    exact ⟨_, run (served.trans ((if_neg notDone).trans (if_pos retry))), event_retried sound q c⟩

end Sys2Proof.Machine

/-! PROOFS. Connection records and their table words agree (O41). -/

namespace Sys2Proof.Machine

/-! ### A word's field, placed where it stood (11) -/

/-- The bits of the field of `width` bits from bit `lo` upward. -/
theorem placed_fieldAt (w : Word) (lo width : Nat) :
    placed lo (fieldAt w lo width) = w &&& placed lo (2 ^ width - 1) := by
  refine BitVec.eq_of_getLsbD_eq fun i within => ?_
  rw [BitVec.getLsbD_and, getLsbD_placed, getLsbD_placed, testBit_fieldAt, Nat.testBit_two_pow_sub_one]
  by_cases above : lo ≤ i
  · rw [Nat.add_sub_cancel' above]
    cases w.getLsbD i <;> simp
  · simp [above]

theorem placed_zero (lo : Nat) : placed lo 0 = 0#32 := BitVec.zero_shiftLeft ..

/-! ### Slot Map and Extra Map words (R129, R133, R179) -/

/-- The out-source code and the add tributary of a record, 0 where none is stored (R129). -/
def OutSource.shown : OutSource → Nat × Nat
  | .void => (0, 0)
  | .through => (1, 0)
  | .add u => (2, u.val)

/-- The fields of a Slot Map or Extra Map word that shows a record (11). -/
def SlotRecord.fields (r : SlotRecord) : List (Nat × Nat × Nat) :=
  [(30, 2, r.source.shown.1), (29, 1, flagCode r.drop.isSome), (8, 8, r.source.shown.2), (0, 8, (r.drop.map (·.val)).getD 0)]

theorem slotWord_eq_formed (r : SlotRecord) : slotWord r = formed r.fields := by
  have parts : slotWord r = (placed 30 r.source.shown.1 ||| placed 8 r.source.shown.2) |||
      (placed 29 (flagCode r.drop.isSome) ||| placed 0 ((r.drop.map (·.val)).getD 0)) := by
    obtain ⟨source, drop⟩ := r
    cases source <;> cases drop <;> simp [slotWord, OutSource.shown, flagCode, placedBit, placed_zero]
  have ordered (a b c d : Word) : (a ||| b) ||| (c ||| d) = a ||| (c ||| (b ||| (d ||| 0#32))) := by
    rw [BitVec.or_zero]
    ac_rfl
  exact parts.trans (ordered _ _ _ _)

theorem SlotRecord.fields_fit (r : SlotRecord) : Fits 32 r.fields := by
  obtain ⟨source, drop⟩ := r
  cases source <;> cases drop <;> simp [SlotRecord.fields, Fits, OutSource.shown, flagCode] <;> omega

/-- What a word says of the out-source: the add tributary is stored with ADD alone (R129, R179). -/
def SourceStored (w : Word) : OutSource → Prop
  | .void => fieldAt w 30 2 = 0
  | .through => fieldAt w 30 2 = 1
  | .add u => fieldAt w 30 2 = 2 ∧ fieldAt w 8 8 = u.val

/-- What a word says of the drop: its tributary is stored with the drop bit alone (R129, R179). -/
def DropStored (w : Word) : Option (Fin 64) → Prop
  | none => fieldAt w 29 1 = 0
  | some u => fieldAt w 29 1 = 1 ∧ fieldAt w 0 8 = u.val

/-- A word stores a record exactly where its fields say so (R129, R133). -/
theorem slotOfWord_eq_some_iff (w : Word) (r : SlotRecord) :
    slotOfWord w = some r ↔ SourceStored w r.source ∧ DropStored w r.drop := by
  obtain ⟨o, b⟩ := r
  unfold slotOfWord
  extract_lets t d source drop
  have sourceTaken : source = some o ↔ SourceStored w o := by
    dsimp only [source]
    split
    next kind => cases o <;> simp [SourceStored, kind]
    next kind => cases o <;> simp [SourceStored, kind]
    next kind =>
      split
      next within => cases o <;> simp [SourceStored, kind, Fin.ext_iff, t]
      next beyond =>
        cases o with
        | void | through => simp [SourceStored, kind]
        | add u => exact iff_of_false nofun fun ⟨_, same⟩ => beyond (same.trans_lt u.isLt)
    next unvoid unthrough unadd =>
      cases o with
      | void => exact iff_of_false nofun unvoid
      | through => exact iff_of_false nofun unthrough
      | add u => exact iff_of_false nofun fun stored => unadd stored.1
  have dropTaken : drop = some b ↔ DropStored w b := by
    dsimp only [drop]
    split
    next used =>
      rw [getLsbD_eq_true_iff] at used
      split
      next within => cases b <;> simp [DropStored, used, Fin.ext_iff, d]
      next beyond =>
        cases b with
        | none => simp [DropStored, used]
        | some u => exact iff_of_false nofun fun ⟨_, same⟩ => beyond (same.trans_lt u.isLt)
    next unused =>
      have clear : fieldAt w 29 1 = 0 := by rw [fieldAt_one, Bool.eq_false_of_not_eq_true unused]; rfl
      cases b <;> simp [DropStored, clear]
  rw [← sourceTaken, ← dropTaken]
  cases source <;> cases drop <;> simp

theorem slotOfWord_slotWord (r : SlotRecord) : slotOfWord (slotWord r) = some r := by
  have holds {f : Nat × Nat × Nat} (mem : f ∈ r.fields) : fieldAt (slotWord r) f.1 f.2.1 = f.2.2 := by
    rw [slotWord_eq_formed]
    exact fieldAt_formed r.fields_fit le_rfl mem
  have kind := holds (f := (30, 2, r.source.shown.1)) (by simp [SlotRecord.fields])
  have used := holds (f := (29, 1, flagCode r.drop.isSome)) (by simp [SlotRecord.fields])
  have added := holds (f := (8, 8, r.source.shown.2)) (by simp [SlotRecord.fields])
  have named := holds (f := (0, 8, (r.drop.map (·.val)).getD 0)) (by simp [SlotRecord.fields])
  refine (slotOfWord_eq_some_iff _ _).2 ⟨?_, ?_⟩
  · cases source : r.source <;> rw [source] at kind added
    · exact kind
    · exact kind
    · exact ⟨kind, added⟩
  · cases drop : r.drop <;> rw [drop] at used named
    · exact used
    · exact ⟨used, named⟩

/-- The word that a stored record reads as: the fields that its layout stores, placed where the word had them. -/
theorem slotWord_of_stored {w : Word} {r : SlotRecord} (source : SourceStored w r.source) (drop : DropStored w r.drop) :
    slotWord r = placed 30 (fieldAt w 30 2) ||| placed 29 (fieldAt w 29 1) |||
      (if fieldAt w 30 2 = 2 then placed 8 (fieldAt w 8 8) else 0#32) |||
      (if fieldAt w 29 1 = 1 then placed 0 (fieldAt w 0 8) else 0#32) := by
  rw [slotWord_eq_formed]
  obtain ⟨o, b⟩ := r
  have sourceShown : placed 30 o.shown.1 = placed 30 (fieldAt w 30 2) ∧
      placed 8 o.shown.2 = if fieldAt w 30 2 = 2 then placed 8 (fieldAt w 8 8) else 0#32 := by
    cases o with
    | void => simp_all [SourceStored, OutSource.shown, placed_zero]
    | through => simp_all [SourceStored, OutSource.shown, placed_zero]
    | add u => simp_all [SourceStored, OutSource.shown]
  have dropShown : placed 29 (flagCode b.isSome) = placed 29 (fieldAt w 29 1) ∧
      placed 0 ((b.map (·.val)).getD 0) = if fieldAt w 29 1 = 1 then placed 0 (fieldAt w 0 8) else 0#32 := by
    cases b with
    | none => simp_all [DropStored, flagCode, placed_zero]
    | some u => simp_all [DropStored, flagCode]
  simp only [formed, SlotRecord.fields, sourceShown, dropShown, BitVec.or_zero, BitVec.or_assoc]

/-! ### Circuit Table words (R131, R133) -/

/-- The fields of the Circuit Table word that shows a present record (11). -/
def Circuit.fields (c : Circuit) : List (Nat × Nat × Nat) :=
  [(31, 1, 1), (30, 1, flagCode c.restore), (8, 8, c.origin.val), (0, 8, c.terminus.val)]

theorem circuitWord_eq_formed (c : Circuit) : circuitWord (some c) = formed c.fields := by
  simp only [circuitWord, formed, Circuit.fields, placedBit_eq, BitVec.or_zero, BitVec.or_assoc]
  rfl

theorem Circuit.fields_fit (c : Circuit) : Fits 32 c.fields := by
  have := flagCode_lt c.restore
  simp only [Circuit.fields, Fits, and_true]
  omega

/-- What a word says of a record: the other fields are stored with the present bit alone (R131, R133). -/
def CircuitStored (w : Word) : Option Circuit → Prop
  | none => fieldAt w 31 1 = 0
  | some c => fieldAt w 31 1 = 1 ∧ fieldAt w 30 1 = flagCode c.restore ∧ fieldAt w 8 8 = c.origin.val ∧
      fieldAt w 0 8 = c.terminus.val ∧ c.origin ≠ c.terminus

/-- A word stores a Circuit Table record exactly where its fields say so (R131, R133). -/
theorem circuitOfWord_eq_some_iff (w : Word) (o : Option Circuit) : circuitOfWord w = some o ↔ CircuitStored w o := by
  unfold circuitOfWord
  extract_lets origin terminus
  split
  next used =>
    rw [getLsbD_eq_true_iff] at used
    have restored (b : Bool) : w.getLsbD 30 = b ↔ fieldAt w 30 1 = flagCode b := by
      rw [fieldAt_one]
      cases w.getLsbD 30 <;> cases b <;> decide
    cases o with
    | none =>
      refine iff_of_false (fun taken => ?_) fun clear => absurd (used.symm.trans clear) (by decide)
      split_ifs at taken
      exact nomatch taken
    | some c =>
      split
      next within =>
        split
        next same =>
          exact iff_of_false nofun fun ⟨_, _, first, last, ends⟩ =>
            ends (Fin.ext (first.symm.trans (same.trans last)))
        next apart =>
          obtain ⟨first, last, restore⟩ := c
          simp only [CircuitStored, Option.some.injEq, Circuit.mk.injEq, Fin.ext_iff, restored, used, true_and, ne_eq]
          constructor
          · rintro ⟨atFirst, atLast, kept⟩
            exact ⟨kept, atFirst, atLast, atFirst ▸ atLast ▸ apart⟩
          · rintro ⟨kept, atFirst, atLast, -⟩
            exact ⟨atFirst, atLast, kept⟩
      next beyond =>
        exact iff_of_false nofun fun ⟨_, _, first, last, _⟩ =>
          beyond ⟨first.trans_lt c.origin.isLt, last.trans_lt c.terminus.isLt⟩
  next unused =>
    have clear : fieldAt w 31 1 = 0 := by rw [fieldAt_one, Bool.eq_false_of_not_eq_true unused]; rfl
    cases o <;> simp [CircuitStored, clear]

theorem circuitOfWord_circuitWord {o : Option Circuit} (ends : ∀ c, o = some c → c.origin ≠ c.terminus) :
    circuitOfWord (circuitWord o) = some o := by
  rw [circuitOfWord_eq_some_iff]
  cases o with
  | none => rfl
  | some c =>
    have holds {f : Nat × Nat × Nat} (mem : f ∈ c.fields) : fieldAt (circuitWord (some c)) f.1 f.2.1 = f.2.2 := by
      rw [circuitWord_eq_formed]
      exact fieldAt_formed c.fields_fit le_rfl mem
    exact ⟨holds (f := (31, 1, 1)) (by simp [Circuit.fields]),
      holds (f := (30, 1, flagCode c.restore)) (by simp [Circuit.fields]),
      holds (f := (8, 8, c.origin.val)) (by simp [Circuit.fields]),
      holds (f := (0, 8, c.terminus.val)) (by simp [Circuit.fields]), ends c rfl⟩

theorem circuitWord_of_stored {w : Word} {o : Option Circuit} (stored : CircuitStored w o) :
    circuitWord o = if fieldAt w 31 1 = 1 then placed 31 (fieldAt w 31 1) ||| placed 30 (fieldAt w 30 1) |||
      placed 8 (fieldAt w 8 8) ||| placed 0 (fieldAt w 0 8) else 0#32 := by
  cases o with
  | none =>
    rw [if_neg (by rw [show fieldAt w 31 1 = 0 from stored]; decide)]
    rfl
  | some c =>
    obtain ⟨used, restore, origin, terminus, -⟩ := stored
    rw [if_pos used, circuitWord_eq_formed, used, restore, origin, terminus]
    simp only [formed, Circuit.fields, BitVec.or_zero, BitVec.or_assoc]

/-- Settles O41, from what each word stores and what a stored record reads as. -/
theorem recordWordsRoundTrip : Obligations.RecordWordsRoundTrip := by
  refine ⟨slotOfWord_slotWord, fun _ => circuitOfWord_circuitWord, fun w r taken => ?_, fun w o taken => ?_⟩
  · obtain ⟨source, drop⟩ := (slotOfWord_eq_some_iff w r).1 taken
    rw [slotWord_of_stored source drop]
    simp only [placed_fieldAt, ← BitVec.and_or_distrib_left]
    rfl
  · rw [circuitWord_of_stored ((circuitOfWord_eq_some_iff w o).1 taken)]
    simp only [placed_fieldAt, ← BitVec.and_or_distrib_left]
    rfl

end Sys2Proof.Machine

/-! PROOFS. The turns of the Agent: which request a turn takes (O34), the tests of R159 (O35), READ and POLL (O36). -/

namespace Sys2Proof.Machine

/-! ### The request that a turn takes (R157) -/

theorem State.takable_iff (s : State) (q : Port) :
    s.takable q = true ↔ s.requests.get q ≠ [] ∧ (s.transmit.get q).occupancy < 8 := by
  simp [State.takable, TransmitQueue.hasPlace_iff]

/-- The first of three that passes a test, said by those before it. -/
theorem find?_triple_iff {α : Type} (test : α → Bool) (a b c d : α) :
    [a, b, c].find? test = some d ↔
      test d = true ∧ (d = a ∨ (¬test a = true ∧ (d = b ∨ (¬test b = true ∧ d = c)))) := by
  rw [List.find?_cons, List.find?_cons, List.find?_cons, List.find?_nil]
  cases first : test a with
  | true => aesop
  | false =>
    cases second : test b with
    | true => aesop
    | false => cases third : test c <;> aesop

/-- The turn that is due takes the head of the first takable queue from the pointer on. -/
theorem nextTurn_iff (s : State) (q : Port) (c : Cell) :
    s.nextTurn = some (q, c) ↔ (turnOrder s.pointer).find? s.takable = some q ∧ (s.requests.get q).head? = some c := by
  unfold State.nextTurn
  simp only [Option.bind_eq_some_iff, Option.map_eq_some_iff, Prod.mk.injEq]
  constructor
  · rintro ⟨r, found, d, head, rfl, rfl⟩
    exact ⟨found, head⟩
  · rintro ⟨found, head⟩
    exact ⟨q, found, c, head, rfl, rfl⟩

/-- A row does nothing where no turn is due for its kind, whichever way its turn ends. -/
theorem turnAs_untaken {close : (State → State) → State → State} {serve : Port → Cell → State → State}
    {kind : Request} {s : State} (untaken : ∀ q c, s.nextTurn = some (q, c) → c.request ≠ kind) : turnAs close kind serve s = s := by
  cases due : s.nextTurn with
  | none => exact turnAs_none due
  | some turn => exact turnAs_other due (untaken turn.1 turn.2 due)

/-- Nor does RESTART, whose turn answers nothing (R157, R164). -/
theorem execRestart_untaken {s : State} (straps : BitVec 6)
    (untaken : ∀ q c, s.nextTurn = some (q, c) → c.request ≠ .command .restart) : execRestart straps s = .next s := by
  unfold execRestart
  cases due : s.nextTurn with
  | none => rfl
  | some turn => simp [untaken turn.1 turn.2 due]

/-- A row that the request of the turn does not name changes nothing (R157; log 1). -/
theorem exec_row_untaken {s : State} {k : Request} (straps : BitVec 6)
    (untaken : ∀ q c, s.nextTurn = some (q, c) → c.request ≠ k) : exec (k.row straps) s = .next s := by
  cases k with
  | command code =>
    cases code with
    | restart => exact execRestart_untaken straps untaken
    | _ => exact congrArg _ (turnAs_untaken untaken)
  | _ => exact congrArg _ (turnAs_untaken untaken)

/-- Settles O34: the search runs from the pointer, and a row acts on a turn that is due for its kind alone. -/
theorem turnTakesFirstTakable : Obligations.TurnTakesFirstTakable := by
  intro s q c k straps takable
  have found := find?_triple_iff s.takable s.pointer (nextPort s.pointer) (nextPort (nextPort s.pointer)) q
  simp only [State.takable_iff] at found
  refine ⟨?_, fun due other => ?_, fun none => ?_⟩
  · rw [nextTurn_iff, turnOrder, found]
    tauto
  · refine exec_row_untaken straps fun r d due' => ?_
    obtain ⟨rfl, rfl⟩ := Prod.mk.inj (Option.some.inj (due.symm.trans due'))
    exact other
  · refine exec_row_untaken straps fun r d due => ?_
    have passed := List.find?_some ((nextTurn_iff s r d).1 due).1
    exact absurd ((s.takable_iff r).1 passed) (none r)

/-! ### A turn that does nothing but answer (R157, R158) -/

section
variable {s : State} {k : Request} {q : Port} {c : Cell} {st : Status} {words : List Word}
  {serve : Port → Cell → State → State}

theorem turn_answered (sound : EventsSound s) (high : s.resetN = true) (due : s.nextTurn = some (q, c))
    (kind : c.request = k) (served : serve q c (takeRequest q s) = respond q c st words (takeRequest q s)) :
    turn k serve s = s.answered q c st words := by
  rw [turn_due high due kind, ← event_answered sound]
  exact event_congr served

/-- A READ-CLEAR that clears nothing ends as any event does. -/
theorem turnReadClear_answered (sound : EventsSound s) (high : s.resetN = true) (due : s.nextTurn = some (q, c))
    (kind : c.request = k) (served : serve q c (takeRequest q s) = respond q c st words (takeRequest q s)) :
    turnAs readClearEvent k serve s = s.answered q c st words := by
  have same : serve q c (takeRequest q s) = s.answered q c st words := served.trans (respond_takeRequest s q c st words)
  rw [turnAs_due high due kind, ← turn_answered sound high due kind served, turn_due high due kind]
  refine readClearEvent_quiet ?_ ?_ ?_
  · rw [same]
    exact (liveValues_congr rfl rfl rfl rfl rfl rfl rfl rfl).trans sound.held.symm
  · rw [same]
    exact sound.pulses
  · rw [same]
    rfl

/-! ### The tests of R159 -/

theorem dataGood_iff (c : Cell) : c.dataGood = true ↔ c.dataCheck = checkOf c.dataBytes := beq_iff_eq

theorem checked_bad (bad : ¬c.dataGood = true) (serve : Port → Cell → State → State) (u : State) :
    checked serve q c u = respond q c .check [] u := if_neg bad

theorem checked_good (good : c.dataGood = true) (serve : Port → Cell → State → State) (u : State) :
    checked serve q c u = serve q c u := if_pos good

theorem addressed_failed (test : tableTest c = some st) (serve : Port → Cell → State → State) (u : State) :
    addressed serve q c u = respond q c st [] u := by
  unfold addressed
  rw [test]

theorem addressed_passed (test : tableTest c = none) (serve : Port → Cell → State → State) (u : State) :
    addressed serve q c u = serve q c u := by
  unfold addressed
  rw [test]

/-- Test 1: every row answers CHECK to a request whose data check fails (R159; log 14). -/
theorem exec_row_check (straps : BitVec 6) (sound : EventsSound s) (high : s.resetN = true)
    (due : s.nextTurn = some (q, c)) (kind : c.request = k) (bad : ¬c.dataGood = true) :
    exec (k.row straps) s = .next (s.answered q c .check []) := by
  cases k with
  | readClear => exact congrArg _ (turnReadClear_answered sound high due kind (checked_bad bad _ _))
  | command code =>
    cases code with
    | restart =>
      show execRestart straps s = _
      simp only [execRestart, due, high, kind, bad]
      exact congrArg _ (event_answered sound q c .check [])
    | _ => exact congrArg _ (turn_answered sound high due kind (checked_bad bad _ _))
  | _ => exact congrArg _ (turn_answered sound high due kind (checked_bad bad _ _))

/-- Test 2: an operation or a command that is not known (R159). -/
theorem exec_row_unknown (straps : BitVec 6) (sound : EventsSound s) (high : s.resetN = true)
    (due : s.nextTurn = some (q, c)) (good : c.dataGood = true)
    (unknown : c.request = .unknownOperation ∨ c.request = .unknownCommand) :
    exec (c.request.row straps) s = .next (s.answered q c .unknown []) := by
  rcases unknown with kind | kind
  all_goals
    rw [kind]
    exact congrArg _ (turn_answered sound high due kind (checked_good good _ _))

/-- Tests 3 and 4, of the rows that address a table (R159). -/
theorem exec_row_addressing (straps : BitVec 6) (sound : EventsSound s) (high : s.resetN = true)
    (due : s.nextTurn = some (q, c)) (good : c.dataGood = true) (kind : c.request = k)
    (addressing : k ∈ [Request.read, .write, .set, .clear, .readClear]) (test : tableTest c = some st) :
    exec (k.row straps) s = .next (s.answered q c st []) := by
  have failed (serve : Port → Cell → State → State) :
      checked (addressed serve) q c (takeRequest q s) = respond q c st [] (takeRequest q s) :=
    (checked_good good _ _).trans (addressed_failed test serve _)
  simp only [List.mem_cons, List.not_mem_nil, or_false] at addressing
  rcases addressing with rfl | rfl | rfl | rfl | rfl
  case inr.inr.inr.inr => exact congrArg _ (turnReadClear_answered sound high due kind (failed _))
  all_goals exact congrArg _ (turn_answered sound high due kind (failed _))

end

theorem ofCode_eq_none_iff (n : Nat) : CommandCode.ofCode n = none ↔ n = 0 ∨ 11 < n := by
  unfold CommandCode.ofCode
  split <;> simp_all
  omega

/-- An operation code names one of the eight operations, COMMAND among them, or none (R159; log 14). -/
theorem request_cases (c : Cell) :
    (c.request = .unknownOperation ↔ c.operation.toNat = 0 ∨ 8 < c.operation.toNat) ∧
    (c.request = .unknownCommand ↔ c.operation.toNat = 7 ∧ CommandCode.ofCode (c.word 0).toNat = none) := by
  unfold Cell.request
  generalize CommandCode.ofCode (c.word 0).toNat = code
  generalize c.operation.toNat = n
  split
  case h_7 => cases code <;> simp
  case h_9 =>
    simp_all
    omega
  all_goals simp

/-- Settles O35: each test in its order, row by row. -/
theorem requestTestsAnswer : Obligations.RequestTestsAnswer := by
  intro s q c straps high sound due addressing
  obtain ⟨operation, command⟩ := request_cases c
  refine ⟨operation, ?_, fun bad => ?_, fun good => ⟨fun unknown => ?_, fun addresses outside => ?_,
    fun addresses within none => ?_⟩⟩
  · rw [command, ofCode_eq_none_iff, ← BitVec.toNat_inj]
    rfl
  · exact exec_row_check straps sound high due rfl (mt (dataGood_iff c).1 bad)
  · exact exec_row_unknown straps sound high due ((dataGood_iff c).2 good) unknown
  · exact exec_row_addressing straps sound high due ((dataGood_iff c).2 good) rfl addresses (if_pos outside)
  · exact exec_row_addressing straps sound high due ((dataGood_iff c).2 good) rfl addresses
      ((if_neg (Nat.not_lt.2 within)).trans (if_pos none))

/-! ### READ and POLL (R160, R165) -/

theorem serveRead_takeRequest (s : State) (q : Port) (c : Cell) :
    serveRead q c (takeRequest q s) =
      if c.index.toNat + c.count.toNat ≤ tableSize c.table.toNat then
        respond q c .done (readWords s c.table.toNat c.index.toNat c.count.toNat) (takeRequest q s)
      else respond q c .range [] (takeRequest q s) := by
  have within : ¬beyond c.table.toNat c.index.toNat c.count.toNat = true ↔
      c.index.toNat + c.count.toNat ≤ tableSize c.table.toNat := by rw [beyond_iff, Nat.not_lt]
  unfold serveRead
  rw [← ite_not]
  exact if_congr within rfl rfl

/-- Settles O36: taking the request moves nothing that a table or a poll record shows. -/
theorem readAndPollAnswer : Obligations.ReadAndPollAnswer := by
  intro s q c sound
  constructor
  · rintro ⟨high, due, kind, data⟩ table least most
    have served : checked (addressed serveRead) q c (takeRequest q s) = _ :=
      (checked_good data _ _).trans ((addressed_passed (tableTest_none table least most) _ _).trans
        (serveRead_takeRequest s q c))
    show Host.Outcome.next (turn .read (checked (addressed serveRead)) s) = _
    split at served
    next within => rw [turn_answered sound high due kind served, if_pos within]; rfl
    next outside => rw [turn_answered sound high due kind served, if_neg outside]
  · rintro ⟨high, due, kind, data⟩
    exact congrArg _ (turn_answered sound high due kind (checked_good data servePoll (takeRequest q s)))

end Sys2Proof.Machine

/-! PROOFS. READ-CLEAR (O42). -/

namespace Sys2Proof.Machine

/-! ### Which READ-CLEARs are accepted (R160, R169) -/

theorem readClearStatus_counters (index count : Nat) :
    readClearStatus 11 index count = if index + count ≤ 18 then .done else .range := by
  have outside : beyond 11 index count = true ↔ ¬index + count ≤ 18 := (beyond_iff ..).trans Nat.not_le.symm
  unfold readClearStatus
  rw [if_pos rfl, if_congr outside rfl rfl, ite_not]

/-- A word of the Events table other than the latches is named. -/
theorem anyNamed_unlatched_iff {index count : Nat} (nonempty : 1 ≤ count) :
    anyNamed 12 index count (· != 1) = true ↔ index < 7 ∧ ¬(index = 1 ∧ count = 1) := by
  rw [anyNamed_iff]
  simp only [bne_iff_ne]
  constructor
  · rintro ⟨i, within, least, most, other⟩
    have : i < 7 := within
    omega
  · rintro ⟨within, other⟩
    by_cases first : index = 1
    · exact ⟨2, by decide, by omega, by omega, by decide⟩
    · exact ⟨index, within, by omega, by omega, first⟩

theorem readClearStatus_events {index count : Nat} (nonempty : 1 ≤ count) :
    readClearStatus 12 index count =
      if index = 1 ∧ count = 1 then .done else if index < 7 then .refused else .range := by
  unfold readClearStatus
  rw [if_neg (by decide), if_pos rfl, if_congr (anyNamed_unlatched_iff nonempty) rfl
    (if_congr (beyond_iff 12 index count) rfl rfl)]
  by_cases latches : index = 1 ∧ count = 1
  · have within : ¬tableSize 12 < index + count := by
      rw [latches.1, latches.2]
      decide
    rw [if_neg fun h => h.2 latches, if_neg within, if_pos latches]
  by_cases within : index < 7
  · rw [if_pos ⟨within, latches⟩, if_neg latches, if_pos within]
  · have outside : tableSize 12 < index + count := by
      show 7 < index + count
      omega
    rw [if_neg fun h => within h.1, if_pos outside, if_neg latches, if_neg within]

theorem readClearStatus_others {table : Nat} (counters : table ≠ 11) (events : table ≠ 12) (index count : Nat) :
    readClearStatus table index count = .refused := by
  unfold readClearStatus
  rw [if_neg counters, if_neg events]

/-! ### What an accepted READ-CLEAR clears (R169, R174) -/

theorem clearCounters_eq (index count : Nat) (s : State) :
    clearCounters index count s =
      { s with
        counters := Vector.ofFn fun i : Fin 18 =>
          if index ≤ i.val ∧ i.val < index + count then 0#32 else s.counters[i]
        tables := { s.tables with
          retryFlag := if index ≤ 16 ∧ 16 < index + count then false else s.tables.retryFlag } } := by
  unfold clearCounters
  simp only [Bool.and_eq_true, decide_eq_true_eq]
  split <;> rfl

theorem clearRead_takeRequest (table index count : Nat) (q : Port) (s : State) :
    clearRead table index count (takeRequest q s) = takeRequest q (clearRead table index count s) := by
  unfold clearRead
  rw [clearCounters_eq, clearCounters_eq]
  split
  · rfl
  · split <;> rfl

/-! ### The turn of a READ-CLEAR (R157, R160) -/

/-- What the turn leaves, by its status: the words returned are those that stood before the clearing. -/
theorem serveReadClear_takeRequest (q : Port) (c : Cell) (s : State) :
    serveReadClear q c (takeRequest q s) =
      let st := readClearStatus c.table.toNat c.index.toNat c.count.toNat
      if st = .done then
        (clearRead c.table.toNat c.index.toNat c.count.toNat s).answered q c .done
          (readWords s c.table.toNat c.index.toNat c.count.toNat)
      else respond q c st [] (takeRequest q s) := by
  unfold serveReadClear
  dsimp only
  generalize readClearStatus c.table.toNat c.index.toNat c.count.toNat = st
  cases st with
  | done =>
    rw [if_pos rfl, clearRead_takeRequest]
    exact respond_takeRequest (clearRead _ _ _ s) q c .done _
  | refused | range | invalid | check | unknown | retry => rfl

section
variable {s : State} {q : Port} {c : Cell}

/-- A READ-CLEAR that is not accepted is answered with its status and clears nothing. -/
theorem exec_readClear_unaccepted {st : Status} (sound : EventsSound s) (takes : TurnTakes s .readClear q c)
    (test : tableTest c = none) (status : readClearStatus c.table.toNat c.index.toNat c.count.toNat = st)
    (unaccepted : st ≠ .done) : exec .readClear s = .next (s.answered q c st []) := by
  obtain ⟨high, due, kind, data⟩ := takes
  have served : checked (addressed serveReadClear) q c (takeRequest q s) = respond q c st [] (takeRequest q s) := by
    rw [checked_good data, addressed_passed test, serveReadClear_takeRequest, status]
    exact if_neg unaccepted
  exact congrArg _ (turnReadClear_answered sound high due kind served)

/-- One that is accepted is one event, which clears and answers. -/
theorem exec_readClear_accepted (takes : TurnTakes s .readClear q c) (test : tableTest c = none)
    (status : readClearStatus c.table.toNat c.index.toNat c.count.toNat = .done) :
    exec .readClear s = .next (readClearEvent (fun _ =>
      (clearRead c.table.toNat c.index.toNat c.count.toNat s).answered q c .done
        (readWords s c.table.toNat c.index.toNat c.count.toNat)) s) := by
  obtain ⟨high, due, kind, data⟩ := takes
  have served : checked (addressed serveReadClear) q c (takeRequest q s) =
      (clearRead c.table.toNat c.index.toNat c.count.toNat s).answered q c .done
        (readWords s c.table.toNat c.index.toNat c.count.toNat) := by
    rw [checked_good data, addressed_passed test, serveReadClear_takeRequest, status]
    exact if_pos rfl
  show Host.Outcome.next (turnAs readClearEvent .readClear (checked (addressed serveReadClear)) s) = _
  rw [turnAs_due high due kind]
  unfold readClearEvent
  dsimp only
  rw [served]

end

/-- The event of a READ-CLEAR that leaves the own entries and, but for the latches, the Event Unit as they stood: the Event Unit
follows and prompts nothing (R166 to R170; log 26). -/
theorem readClearEvent_observed {s v : State} (sound : EventsSound s) (own : v.signalling.own = s.signalling.own)
    (events : v.events = s.events) :
    let t := readClearEvent (fun _ => v) s
    Observed s.events 0#32 t ∧
      t = { v with
        events := { s.events with held := t.events.held, latches := t.events.latches }, alertN := t.alertN } := by
  have live := observeReadClear_observed s.events v (by rw [events]) (by rw [events])
    (by rw [events]; exact ⟨rfl, rfl, rfl, rfl⟩)
  have kept : (latched v).events =
      { s.events with held := (latched v).events.held, latches := (latched v).events.latches } := by
    simp only [latched, State.setEvents_events, events, sound.pulses]
  unfold readClearEvent
  rw [advanceEditions_same own]
  rw [events, sound.pulses] at live
  obtain ⟨observed, frame⟩ := live
  exact ⟨observed, frame.trans (congrArg (fun e => { v with events := e, alertN := (observeReadClear v).alertN }) kept)⟩

/-- The latch word alone is cleared without a change that the Event Unit takes (R169, R172). -/
theorem readClearEvent_latches {s : State} (sound : EventsSound s) (q : Port) (c : Cell) (words : List Word) :
    readClearEvent (fun _ => (s.setEvents { s.events with latches := 0#32 }).answered q c .done words) s =
      { s.answered q c .done words with events := { s.events with latches := 0#32 }, alertN := true } := by
  have live : liveValues ((s.setEvents { s.events with latches := 0#32 }).answered q c .done words) = s.events.held :=
    (liveValues_congr rfl rfl rfl rfl rfl rfl rfl rfl).trans sound.held.symm
  have work := event_quiet (f := fun _ => (s.setEvents { s.events with latches := 0#32 }).answered q c .done words)
    (s := s) live sound.pulses rfl
  have ends := readClearEvent_quiet (f := fun _ => (s.setEvents { s.events with latches := 0#32 }).answered q c .done words)
    (s := s) live sound.pulses rfl
  have level : (0#32 &&& s.events.alert == 0#32) = true := by rw [BitVec.zero_and]; rfl
  rw [ends, work, ← level]
  rfl

/-- Counters are cleared with the retry flag, and COUNTER-SATURATED may fall (R166, R174; log 26). -/
theorem readClearEvent_counters {s : State} (sound : EventsSound s) (index count : Nat) (q : Port) (c : Cell)
    (words : List Word) :
    let t := readClearEvent (fun _ => (clearCounters index count s).answered q c .done words) s
    (∀ i : Fin 18, t.counters[i] = if index ≤ i.val ∧ i.val < index + count then 0#32 else s.counters[i]) ∧
      Observed s.events 0#32 t ∧
      t = { s with
        requests := s.requestsTaken q, pointer := nextPort q, counters := t.counters
        tables := { s.tables with
          retryFlag := if index ≤ 16 ∧ 16 < index + count then false else s.tables.retryFlag }
        transmit := s.transmitWith q (s.response q c .done words)
        events := { s.events with held := t.events.held, latches := t.events.latches }, alertN := t.alertN } := by
  obtain ⟨observed, frame⟩ := readClearEvent_observed
    (v := (clearCounters index count s).answered q c .done words) sound (by rw [clearCounters_eq]; rfl)
    (by rw [clearCounters_eq]; rfl)
  dsimp only
  generalize readClearEvent (fun _ => (clearCounters index count s).answered q c .done words) s = t at *
  have counters : t.counters = (clearCounters index count s).counters := by rw [frame]; rfl
  refine ⟨fun i => ?_, observed, ?_⟩
  · rw [counters, clearCounters_eq]
    exact Vector.getElem_ofFn i.isLt
  · rw [counters]
    refine frame.trans ?_
    rw [clearCounters_eq]
    rfl

/-- Settles O42, by the table and the words named. -/
theorem readClearClears : Obligations.ReadClearClears := by
  intro s q c sound takes table least most first stop words
  have test := tableTest_none table least most
  have unaccepted {st : Status} := exec_readClear_unaccepted (st := st) sound takes test
  refine ⟨fun counters within => ?_, fun counters outside => ?_, fun events latches one => ?_, fun events outside => ?_,
    fun events within other => ?_, fun counters events => ?_⟩
  · have status : readClearStatus c.table.toNat first c.count.toNat = .done := by
      rw [counters, readClearStatus_counters]
      exact if_pos within
    have cleared : clearRead c.table.toNat first c.count.toNat s = clearCounters first c.count.toNat s :=
      if_pos counters
    rw [exec_readClear_accepted takes test status, cleared]
    exact ⟨_, rfl, readClearEvent_counters sound first c.count.toNat q c _⟩
  · refine unaccepted ?_ nofun
    rw [counters, readClearStatus_counters]
    exact if_neg (Nat.not_le.2 outside)
  · have status : readClearStatus c.table.toNat first c.count.toNat = .done := by
      rw [events, readClearStatus_events least]
      exact if_pos ⟨latches, one⟩
    have cleared : clearRead c.table.toNat first c.count.toNat s = s.setEvents { s.events with latches := 0#32 } := by
      rw [events]
      rfl
    have shown : readWords s c.table.toNat first c.count.toNat = [s.events.latches] := by
      rw [events, latches, one]
      rfl
    rw [exec_readClear_accepted takes test status, cleared, shown, readClearEvent_latches sound]
  · refine unaccepted ?_ nofun
    rw [events, readClearStatus_events least, if_neg (by omega), if_neg (Nat.not_lt.2 outside)]
  · refine unaccepted ?_ nofun
    rw [events, readClearStatus_events least, if_neg other, if_pos within]
  · exact unaccepted (readClearStatus_others counters events _ _) nofun

end Sys2Proof.Machine

/-! PROOFS. The Cell Router's steps in the terms of the claims, and with them an inbound tributary frame (O28). -/

namespace Sys2Proof.Machine

/-! ### A cell that is routed (R151 to R155) -/

/-- The state after a cell has been routed as r says: the queues, the pulse events and the one counter. -/
def State.routedBy (s : State) (r : Routed) : State :=
  { s with
    requests := r.requests, transmit := r.transmit
    counters := match r.counted with
      | some k => (s.bump k 1).counters
      | none => s.counters
    events := { s.events with pulses := s.events.pulses ||| r.pulses } }

/-- A cell's arrival moves its one counter and no other. -/
theorem State.count_routedBy (s : State) (r : Routed) (k : Counter) :
    (s.routedBy r).count k = if r.counted = some k then advanced (s.count k) 1 else s.count k := by
  cases counted : r.counted with
  | none =>
    unfold State.count State.routedBy
    rw [counted]
    rfl
  | some j =>
    have bumped : (s.routedBy r).count k = (s.bump j 1).count k := by
      unfold State.count State.routedBy
      rw [counted]
    rw [bumped, State.count_bump]
    by_cases same : k = j
    · subst same
      rw [if_pos rfl, if_pos rfl]
    · rw [if_neg same, if_neg fun h => same (Option.some.inj h).symm]

/-- A cell that goes nowhere leaves the queues and the pulse events. -/
theorem State.routedBy_counted (s : State) (k : Counter) :
    s.routedBy { s.unrouted with counted := some k } = s.bump k 1 := by
  simp only [State.routedBy, State.unrouted, BitVec.or_zero]
  rfl

theorem State.routedBy_unrouted (s : State) : s.routedBy s.unrouted = s := by
  simp only [State.routedBy, State.unrouted, BitVec.or_zero]

theorem State.routedBy_dropped (s : State) : s.routedBy s.dropped = transitDrop s := rfl

theorem State.routedBy_requested (s : State) (q : Port) (c : Cell) :
    s.routedBy (s.requested q c) = queueRequest q c s := by
  unfold State.requested queueRequest
  rw [apply_ite s.routedBy]
  refine if_congr Iff.rfl ?_ rfl
  simp only [State.routedBy, BitVec.or_zero]
  rfl

theorem State.routedBy_queuedTo (s : State) (q : Port) (c : Cell) : s.routedBy (s.queuedTo q c) = queueCell q c s := by
  unfold State.queuedTo queueCell
  rw [apply_ite s.routedBy]
  refine if_congr (TransmitQueue.hasPlace_iff _).symm ?_ rfl
  simp only [State.routedBy, BitVec.or_zero]
  rfl

/-! ### The steps of R151 and R152 -/

theorem namesThisNode_iff (s : State) (b : Byte) : namesThisNode s b = true ↔ b.toNat = s.identity.nodeId.toNat := by
  have widened : (s.identity.nodeId.setWidth 8).toNat = s.identity.nodeId.toNat :=
    BitVec.toNat_setWidth_of_le (by decide)
  rw [namesThisNode, beq_iff_eq, ← BitVec.toNat_inj, widened]

theorem namesAlias_iff (b : Byte) : namesAlias b = true ↔ b.toNat = 63 := beq_iff_eq

/-- A cell from a line goes as the first step of R151 that applies says. -/
theorem routeManagement_line (x : Side) (m : Management) (s : State) :
    routeManagement (routeLineCell x) m s = s.routedBy (s.lineRouted x m) := by
  unfold routeManagement State.lineRouted Management.present
  by_cases present : m.flag.getLsbD 0 = true
  · rw [if_pos present, if_neg (by simp [present])]
    unfold routeLineCell
    simp only [apply_ite s.routedBy, State.routedBy_counted, State.routedBy_unrouted, State.routedBy_requested,
      State.routedBy_queuedTo, State.routedBy_dropped, ite_or, namesThisNode_iff, namesAlias_iff, Bool.not_eq_true',
      beq_iff_eq]
    rfl
  · rw [if_neg present, if_pos (Bool.eq_false_of_not_eq_true present), State.routedBy_unrouted]

/-- A route code other than those of the two lines names no line (R152). -/
theorem ofRoute_elsewhere {r : Byte} (east : r ≠ 1#8) (west : r ≠ 2#8) :
    Port.ofRoute r.toNat = none ∨ Port.ofRoute r.toNat = some .tributary := by
  have notEast : r.toNat ≠ 1 := fun code => east (BitVec.eq_of_toNat_eq code)
  have notWest : r.toNat ≠ 2 := fun code => west (BitVec.eq_of_toNat_eq code)
  unfold Port.ofRoute
  split <;> simp_all

theorem hopLimit_eq_zero_iff (c : Cell) : c.hopLimit = 0 ↔ c.hop = 0#8 := by
  unfold Cell.hopLimit
  rw [← BitVec.toNat_inj, BitVec.toNat_zero]
  omega

/-- A cell from the tributary port goes as the first step of R152 that applies says. -/
theorem routeManagement_tributary {f : TributaryFrame} (good : f.alignment = 0x1E7B4D92#32) (s : State) :
    routeManagement routeTributaryCell f.management s = s.routedBy (s.tributaryRouted f) := by
  unfold routeManagement State.tributaryRouted Management.present
  by_cases present : f.management.flag.getLsbD 0 = true
  · rw [if_pos present, if_neg (by simp [good, present])]
    generalize f.management.cell = c
    unfold routeTributaryCell
    simp only [apply_ite s.routedBy, State.routedBy_counted, State.routedBy_unrouted, State.routedBy_requested,
      State.routedBy_queuedTo, namesThisNode_iff, namesAlias_iff, Bool.not_eq_true', Bool.or_eq_true, beq_iff_eq,
      hopLimit_eq_zero_iff]
    by_cases east : c.route = 1#8
    · simp only [east]
      rfl
    by_cases west : c.route = 2#8
    · simp only [west]
      rfl
    rw [if_neg east, if_neg west]
    rcases ofRoute_elsewhere east west with none | tributary
    · rw [none]
    · rw [tributary]
  · rw [if_neg present, if_pos (.inr (Bool.eq_false_of_not_eq_true present)), State.routedBy_unrouted]

/-! ### The Event Unit after a cell has been routed (R166 to R172) -/

/-- An event whose work ends with the routing of a cell, and until then left the Event Unit but for the pulses p and the queues
as they stood. -/
theorem event_routed {f : State → State} {s u : State} {r : Routed} {p : Word} (work : f s = u.routedBy r)
    (events : u.events = { s.events with pulses := p }) :
    Reported s.events (p ||| r.pulses) r.transmit (event f s) := by
  have taken : (f s).events = { s.events with pulses := p ||| r.pulses } := by
    rw [work]
    unfold State.routedBy
    rw [events]
  have transmit : (f s).transmit = r.transmit := by rw [work]; rfl
  have reported := event_reported f s (by rw [taken]) (by rw [taken]) (by rw [taken]; exact ⟨rfl, rfl, rfl, rfl⟩)
    (by rw [taken]) (by rw [taken])
  rw [taken, transmit] at reported
  exact reported

/-- The counters at the end of an event are those that its work left. -/
theorem event_count (f : State → State) (s : State) (k : Counter) : (event f s).count k = (f s).count k := by
  unfold State.count
  rw [event_frame]

/-! ### Tributary frames (R4) -/

/-- The state after a tributary frame's slots: a good alignment word makes them the holder's (R4). -/
def State.tributaryTaken (s : State) (f : TributaryFrame) : State :=
  s.setHolder (if f.alignment = 0x1E7B4D92#32 then some f.slots else s.holder)

theorem goodWord_iff (w : Word) : goodWord w = true ↔ w = 0x1E7B4D92#32 := beq_iff_eq

theorem tributaryArrival_eq (f : TributaryFrame) (s : State) :
    tributaryArrival f s = (s.tributaryTaken f).routedBy (s.tributaryRouted f) := by
  unfold tributaryArrival State.tributaryTaken
  by_cases good : f.alignment = 0x1E7B4D92#32
  · rw [if_pos ((goodWord_iff _).2 good), if_pos good]
    exact routeManagement_tributary good (s.setHolder (some f.slots))
  · have discarded : s.tributaryRouted f = s.unrouted := if_pos (.inl good)
    rw [if_neg (mt (goodWord_iff _).1 good), if_neg good, discarded]
    exact s.routedBy_unrouted.symm

/-- Settles O28: the holder's slots and the routed cell are all that a tributary frame leaves. -/
theorem tributaryFrameIsTaken : Obligations.TributaryFrameIsTaken := by
  intro s f high sound
  have own : (tributaryArrival f s).signalling.own = s.signalling.own := by rw [tributaryArrival_eq]; rfl
  have frame := event_frame_of_own own
  refine ⟨event (tributaryArrival f) s, ?_, ?_, ?_, ?_, fun k => ?_, ?_⟩
  · show Host.Outcome.next (if s.resetN then _ else _) = _
    rw [if_pos high]
  · rw [frame, tributaryArrival_eq]
    rfl
  · rw [frame, tributaryArrival_eq]
    rfl
  · have reported := event_routed (tributaryArrival_eq f s) (p := 0#32) (by rw [← sound.pulses]; rfl)
    rwa [BitVec.zero_or] at reported
  · rw [event_count, tributaryArrival_eq, State.count_routedBy]
    rfl
  · conv_lhs => rw [frame]
    conv_rhs => rw [frame]
    rw [tributaryArrival_eq]
    rfl

end Sys2Proof.Machine

/-! PROOFS. A cell that arrives from a line is routed after the rest of its frame (O27). -/

namespace Sys2Proof.Machine

/-! ### What the rest of an arrival leaves of the router's counters and of the pulse events -/

/-- The counters that the Cell Router advances (R153). -/
def Counter.ofRouter : Counter → Bool
  | .cellsDiscarded _ | .transitDrops | .requestOverflows | .tributaryCellsDiscarded => true
  | _ => false

/-- From s to t the Cell Router's counters stand, and the one pulse event that can occur is the COMMAND-DROPPED of a drop. -/
structure RouterStands (s t : State) : Prop where
  counters : ∀ k : Counter, k.ofRouter = true → t.count k = s.count k
  manual : ManualFollows s t

section
variable {s t u : State}

theorem ManualFollows.refl (s : State) : ManualFollows s s := .inl ⟨fun _ => rfl, rfl⟩

/-- The pulse events after a drop are those before it and its COMMAND-DROPPED (R96). -/
theorem ManualFollows.pulses_or (h : ManualFollows s t) :
    t.events.pulses = s.events.pulses ||| commandDropped [.east, .west] s t := by
  unfold commandDropped
  rcases h with ⟨same, quiet⟩ | ⟨⟨y, manual⟩, dropped, pulse⟩
  · rw [if_neg, quiet, BitVec.or_zero]
    rintro ⟨y, -, manual, gone⟩
    rw [same, manual] at gone
    contradiction
  · rw [if_pos, pulse]
    exact ⟨y, by cases y <;> simp, manual, by rw [dropped, if_pos manual]⟩

theorem RouterStands.refl (s : State) : RouterStands s s := ⟨fun _ _ => rfl, .refl s⟩

theorem RouterStands.trans (h : RouterStands s t) (k : RouterStands t u) : RouterStands s u :=
  ⟨fun c router => (k.counters c router).trans (h.counters c router), h.manual.trans k.manual⟩

/-- Work on none of the counters, the conditions and the pulse events. -/
theorem RouterStands.of_eq (counters : t.counters = s.counters) (condition : t.condition = s.condition)
    (pulses : t.events.pulses = s.events.pulses) : RouterStands s t where
  counters := fun k _ => by rw [State.count, counters]; rfl
  manual := .inl ⟨fun y => by rw [condition], pulses⟩

/-- A counter of another block advances. -/
theorem bump_routerStands (s : State) {k : Counter} (other : k.ofRouter = false) (n : Nat) :
    RouterStands s (s.bump k n) where
  counters := fun c router => by
    have apart : c ≠ k := fun same => by
      rw [same, other] at router
      contradiction
    rw [State.count_bump, if_neg apart]
  manual := .inl ⟨fun _ => rfl, rfl⟩

/-- A chain of notices moves no counter. -/
theorem RestorationFrame.routerStands (h : RestorationFrame s t) (manual : ManualFollows s t) : RouterStands s t :=
  ⟨fun k _ => by unfold State.count; rw [h], manual⟩

theorem closeMonitor_routerStands (x : Side) (changes : List Report) (s : State) :
    RouterStands s (closeMonitor x changes s) :=
  ⟨fun k _ => by unfold State.count; rw [closeMonitor_frame x changes s]; rfl, closeMonitor_manualFollows x changes s⟩

theorem monitorArrival_routerStands (x : Side) (outcome : VectorOutcome) (parity : Option Nat) (s : State) :
    RouterStands s (monitorArrival x outcome parity s) := by
  have taken (u : State) (m : Sides Monitor) : RouterStands u (u.setMonitor m) := .of_eq rfl rfl rfl
  unfold monitorArrival
  dsimp only
  split
  next v =>
    have counted : RouterStands s (countParity s x v) :=
      (bump_routerStands s (k := .violations x) rfl v).trans (bump_routerStands _ (k := .erroredFrames x) rfl _)
    exact (counted.trans (taken _ _)).trans (closeMonitor_routerStands x _ _)
  next => exact (taken _ _).trans (closeMonitor_routerStands x _ _)

theorem mergeEntries_routerStands (start : Sides OwnEntry) (s : State) (x : Side) (v : SigVector) (p : Nat) :
    RouterStands s (mergeEntries start s x v p) := by
  have merged (w : Signalling) : RouterStands s (s.setSignalling w) := .of_eq rfl rfl rfl
  exact (merged _).trans (bump_routerStands _ (k := .entriesIgnored x) rfl _)

theorem arrivalMerge_routerStands (start : Sides OwnEntry) (x : Side) (v : SigVector) (qualifies : Bool) (s : State) :
    RouterStands s (arrivalMerge start x v qualifies s) := by
  have merged (p : Nat) := mergeEntries_routerStands start s x v p
  have noticed (u : State) : RouterStands u (tableNotice u) :=
    (tableNotice_frame u).routerStands (tableNotice_detectionKept u).manual
  unfold arrivalMerge mergeVector
  split
  · split
    · dsimp only
      split
      · exact (merged _).trans (noticed _)
      · exact merged _
    · exact .refl s
  · exact .refl s

theorem noteVector_routerStands (s : State) (x : Side) (v : SigVector) : RouterStands s (noteVector s x v) := by
  unfold noteVector
  split
  · exact .of_eq rfl rfl rfl
  · exact bump_routerStands s (k := .vectorsDiscarded x) rfl 1

/-- After the frame's slots are stored. -/
theorem arrivalWork_routerStands (x : Side) (f : LineFrame) (order : ArrivalOrder) (s : State) :
    RouterStands (bufferArrival x f.slots s) (arrivalWork x f order s) := by
  have held (u : State) :
      RouterStands u (u.updateReceiver x fun r => { r with heldParity := some (laneParity f.slots) }) := .of_eq rfl rfl rfl
  have taken := (held (bufferArrival x f.slots s)).trans (noteVector_routerStands _ x f.vector)
  cases order with
  | mergeFirst =>
    exact (taken.trans (arrivalMerge_routerStands _ x _ _ _)).trans (monitorArrival_routerStands x _ _ _)
  | monitorFirst =>
    exact (taken.trans (monitorArrival_routerStands x _ _ _)).trans (arrivalMerge_routerStands _ x _ _ _)

/-! ### The slots of an arriving frame (R14, R17) -/

theorem slipPulses_side (x : Side) (slips : Bool) :
    slipPulses (x == .east && slips) (x == .west && slips) = if slips then 1#32 <<< (Pulse.slip x).bit else 0#32 := by
  cases x <;> cases slips <;> rfl

/-- An arrival at the alignment buffer is a delete slip or moves neither counters nor pulse events (R17). -/
theorem bufferArrival_eq (x : Side) (f : LineSlots) (s : State) :
    let stored := s.setBuffer (bufferArrival x f s).buffer
    bufferArrival x f s = if s.deletes x then slip x stored else stored := by
  unfold bufferArrival State.deletes
  dsimp only
  cases mode : (s.buffer.get x).mode with
  | flushed => rfl
  | centering => rfl
  | running =>
    by_cases full : 4 ≤ (s.buffer.get x).frames.length
    · have room : ¬(s.buffer.get x).frames.length < Config.bufferCapacity := Nat.not_lt.2 full
      simp only [room, full, if_false, if_true, beq_self_eq_true, decide_true, Bool.and_true]
      rfl
    · have room : (s.buffer.get x).frames.length < Config.bufferCapacity := Nat.lt_of_not_le full
      simp only [room, full, if_true, decide_false, Bool.and_false, Bool.false_eq_true, if_false]
      rfl

theorem bufferArrival_slips (x : Side) (f : LineSlots) (s : State) :
    (∀ k : Counter, k.ofRouter = true → (bufferArrival x f s).count k = s.count k) ∧
      (bufferArrival x f s).condition = s.condition ∧
      (bufferArrival x f s).events.pulses =
        s.events.pulses ||| slipPulses (x == .east && s.deletes x) (x == .west && s.deletes x) := by
  rw [slipPulses_side, bufferArrival_eq]
  split
  · refine ⟨fun k router => ?_, rfl, rfl⟩
    exact (bump_routerStands _ (k := .slips x) rfl 1).counters k router
  · exact ⟨fun _ _ => rfl, rfl, (BitVec.or_zero).symm⟩

/-! ### The arrival (R11) -/

/-- A cell is routed by the queues and the identity as they stand. -/
theorem lineRouted_congr (requests : t.requests = s.requests) (transmit : t.transmit = s.transmit)
    (identity : t.identity = s.identity) (x : Side) (m : Management) : t.lineRouted x m = s.lineRouted x m := by
  unfold State.lineRouted State.requested State.queuedTo State.dropped State.unrouted State.transmitWith
  rw [requests, transmit, identity]

theorem frameArrival_routed (x : Side) (f : LineFrame) (order : ArrivalOrder) (s : State) :
    frameArrival x f order s = (arrivalWork x f order s).routedBy (s.lineRouted x f.management) := by
  have frame := (arrivalWork_lineWork x f order s).frame
  rw [frameArrival_eq, routeManagement_line,
    lineRouted_congr (s := s) (by rw [frame]) (by rw [frame]) (by rw [frame])]

/-- The pulse events and the router's counters when a line frame's cell comes to be routed. -/
theorem arrivalWork_pulses (quiet : s.events.pulses = 0#32) (x : Side) (f : LineFrame) (order : ArrivalOrder) :
    (arrivalWork x f order s).events.pulses =
        slipPulses (x == .east && s.deletes x) (x == .west && s.deletes x) |||
          commandDropped [.east, .west] s (arrivalWork x f order s) ∧
      ∀ k : Counter, k.ofRouter = true → (arrivalWork x f order s).count k = s.count k := by
  obtain ⟨counters, condition, pulses⟩ := bufferArrival_slips x f.slots s
  obtain ⟨counted, manual⟩ := arrivalWork_routerStands x f order s
  refine ⟨?_, fun k router => (counted k router).trans (counters k router)⟩
  rw [manual.pulses_or, pulses, quiet, BitVec.zero_or, commandDropped_congr condition.symm rfl]

end

/-- Settles O27: the cell is routed last, by what the rest of the arrival leaves alone. -/
theorem lineCellIsRouted : Obligations.LineCellIsRouted := by
  intro s x f o high sound signal aligned
  have routed := frameArrival_routed x f o s
  obtain ⟨pulses, counters⟩ := arrivalWork_pulses sound.pulses x f o
  have events : (arrivalWork x f o s).events = { s.events with pulses := (arrivalWork x f o s).events.pulses } := by
    rw [(arrivalWork_lineWork x f o s).frame]
  have condition : (event (frameArrival x f o) s).condition = (arrivalWork x f o s).condition := by
    rw [event_frame, routed]
    rfl
  refine ⟨_, exec_alignedFrameArrival high signal aligned f o, ?_, ?_, fun k router => ?_⟩
  · rw [event_frame, routed]
    rfl
  · have reported := event_routed routed events
    rw [pulses, commandDropped_congr rfl condition.symm] at reported
    exact reported
  · have ofRouter : k.ofRouter = true := by
      simp only [List.mem_cons, List.not_mem_nil, or_false] at router
      rcases router with rfl | rfl | rfl <;> rfl
    rw [event_count, routed, State.count_routedBy, counters k ofRouter]

end Sys2Proof.Machine

/-! PROOFS. A send attempt writes the pending notice or spends itself (O33). -/

namespace Sys2Proof.Machine

/-! ### The notice (R170) -/

/-- The notice, field by field as R170 lists them. -/
theorem noticeCell_eq (s : State) :
    noticeCell s = Cell.sealed
      { kind := 3#8
        route := (match s.profile.noticeRoute with
          | .east => 1#8
          | .west => 2#8
          | .tributary => 3#8)
        hop := BitVec.ofNat 8 s.profile.responseHop
        destination := s.profile.noticeDestination.setWidth 8, source := s.identity.nodeId.setWidth 8
        tag := s.events.sequence, operation := 1#8, status := 0#8, table := 12#8, count := 3#8, index := 0#16
        headerCheck := 0#16
        data := #v[s.events.latches, s.events.held, s.frameCount, 0#32, 0#32, 0#32, 0#32, 0#32]
        dataCheck := 0#16 } := by
  have data : (Vector.ofFn fun i : Fin 8 => [s.events.latches, s.events.held, s.frameCount].getD i.val 0#32) =
      #v[s.events.latches, s.events.held, s.frameCount, 0#32, 0#32, 0#32, 0#32, 0#32] := rfl
  unfold noticeCell
  rw [data]
  cases s.profile.noticeRoute <;> rfl

/-- The state after cell c has been written as the pending notice (R170, R171). -/
def State.withNotice (s : State) (c : Cell) : State :=
  { s with
    transmit := s.transmitWith s.profile.noticeRoute c
    events := { s.events with sequence := s.events.sequence + 1#8, pending := false, attempts := 0 } }

theorem writeNotice_eq (s : State) : writeNotice s = s.withNotice (noticeCell s) := rfl

/-! ### The attempt (R171; log 16) -/

/-- A send attempt touches the transmit queues, the notice-pending flag, the sequence number and the attempts. -/
theorem sendAttempt_frame (s : State) :
    sendAttempt s =
      { s with
        transmit := (sendAttempt s).transmit
        events := { s.events with
          pending := (sendAttempt s).events.pending, sequence := (sendAttempt s).events.sequence
          attempts := (sendAttempt s).events.attempts } } := by
  unfold sendAttempt
  split <;> rfl

/-- The end of a send attempt finds no live condition changed, and ALERT_N at its level. -/
theorem event_sendAttempt {s : State} (sound : EventsSound s) : event sendAttempt s = sendAttempt s := by
  have frame := sendAttempt_frame s
  have live : liveValues (sendAttempt s) = (sendAttempt s).events.held := by
    rw [frame]
    exact (liveValues_congr rfl rfl rfl rfl rfl rfl rfl rfl).trans sound.held.symm
  have level : ((sendAttempt s).events.latches &&& (sendAttempt s).events.alert == 0#32) = (sendAttempt s).alertN := by
    rw [frame]
    exact sound.level
  rw [event_quiet live (by rw [frame]; exact sound.pulses) (by rw [frame]), level]

theorem exec_noticeSendAttempt {s : State} (high : s.resetN = true) (pending : s.events.pending = true)
    (prompted : 1 ≤ s.events.attempts) : exec .noticeSendAttempt s = .next (event sendAttempt s) :=
  congrArg _ (if_pos (by simpa [high, pending] using Nat.succ_le_iff.1 prompted))

/-- Settles O33: the attempt is one event, at whose end the Event Unit finds nothing to do. -/
theorem sendAttemptWritesNotice : Obligations.SendAttemptWritesNotice := by
  intro s high sound pending prompted
  rw [exec_noticeSendAttempt high pending prompted, event_sendAttempt sound]
  exact congrArg _ (if_congr (TransmitQueue.hasPlace_iff _)
    ((writeNotice_eq s).trans (congrArg s.withNotice (noticeCell_eq s))) rfl)

end Sys2Proof.Machine

/-! PROOFS. The Event Unit's registers and the transmit queues through the work of every command. -/

namespace Sys2Proof.Machine

/-! ### The stored positions (R169) -/

/-- The spare position reads 0 in every word, and the fall enables have no pulse events (R169). -/
def EventUnit.Masked (e : EventUnit) : Prop :=
  e.latches &&& ~~~Config.sourceMask = 0#32 ∧ e.rise &&& ~~~Config.sourceMask = 0#32 ∧
    e.fall &&& ~~~Config.liveMask = 0#32 ∧ e.notify &&& ~~~Config.sourceMask = 0#32 ∧
    e.alert &&& ~~~Config.sourceMask = 0#32

/-- A word has no bit outside a mask exactly where each of its bits is one of the mask's. -/
theorem and_not_eq_zero_iff (w m : Word) :
    w &&& ~~~m = 0#32 ↔ ∀ i : Fin 32, w.getLsbD i = true → m.getLsbD i = true := by
  rw [← not_iff_not]
  refine (exists_getLsbD_of_ne_zero _).trans ?_
  simp

theorem masked_word (w m : Word) : w &&& m &&& ~~~m = 0#32 :=
  (and_not_eq_zero_iff _ m).2 fun _ set => ((Bool.and_eq_true _ _).mp (BitVec.getLsbD_and ▸ set)).2

theorem liveMask_le_sourceMask (i : Fin 32) : Config.liveMask.getLsbD i = true → Config.sourceMask.getLsbD i = true := by
  revert i
  decide

/-- A word of table 12 is stored in its positions alone (R169). -/
theorem storeEvents_masked {e : EventUnit} (h : e.Masked) (i : Nat) (w : Word) : (storeEvents e i w).Masked := by
  obtain ⟨latches, rise, fall, notify, alert⟩ := h
  unfold storeEvents
  split
  · exact ⟨latches, masked_word _ _, fall, notify, alert⟩
  · exact ⟨latches, rise, masked_word _ _, notify, alert⟩
  · exact ⟨latches, rise, fall, masked_word _ _, alert⟩
  · exact ⟨latches, rise, fall, notify, masked_word _ _⟩
  · exact ⟨latches, rise, fall, notify, alert⟩

/-- Latches set by enabled rises, falls and occurrences keep to the sources (R168, R169). -/
theorem Observed.latches_masked {e : EventUnit} {pulses : Word} {t : State} (h : Observed e pulses t) (masked : e.Masked) :
    t.events.latches &&& ~~~Config.sourceMask = 0#32 := by
  obtain ⟨latches, rise, fall, -, -⟩ := masked
  rw [and_not_eq_zero_iff] at *
  intro i set
  rw [h.latches] at set
  simp only [Bool.or_eq_true, Bool.and_eq_true] at set
  rcases set with ((held | ⟨-, rises⟩) | ⟨-, falls⟩) | ⟨-, occurs⟩
  · exact latches i held
  · exact rise i rises
  · exact liveMask_le_sourceMask i (fall i falls)
  · exact rise i occurs

/-! ### The end of an event (R166 to R172) -/

/-- What the Event Unit leaves is sound, with no pulse event left. -/
theorem Observed.eventsSound {e : EventUnit} {pulses : Word} {t : State} (h : Observed e pulses t) (masked : e.Masked)
    (quiet : t.events.pulses = 0#32) : EventsSound t where
  held := h.held
  pulses := quiet
  alert := by
    rw [h.alert, exists_getLsbD_of_ne_zero]
    simp
  masks := by
    obtain ⟨rise, fall, notify, alert⟩ := h.enables
    rw [rise, fall, notify, alert]
    exact ⟨h.latches_masked masked, masked.2⟩

theorem EventsSound.masked {s : State} (h : EventsSound s) : s.events.Masked := h.masks

theorem observe_eventsSound {s : State} (masked : s.events.Masked) : EventsSound (observe s) :=
  (observe_reported s.events s rfl rfl ⟨rfl, rfl, rfl, rfl⟩ rfl rfl).observed.eventsSound masked (by rw [observe_frame]; rfl)

theorem event_eventsSound {f : State → State} {s : State} (masked : (f s).events.Masked) : EventsSound (event f s) :=
  observe_eventsSound (s := advanceEditions s (f s)) masked

theorem readClearEvent_eventsSound {f : State → State} {s : State} (masked : (f s).events.Masked) :
    EventsSound (readClearEvent f s) :=
  (observeReadClear_observed (f s).events (advanceEditions s (f s)) rfl rfl ⟨rfl, rfl, rfl, rfl⟩).1.eventsSound masked rfl

/-- The end of an event leaves the enables alone. -/
theorem event_enables (f : State → State) (s : State) : EnablesKept (f s).events (event f s).events := by
  unfold event
  rw [observe_frame]
  exact ⟨rfl, rfl, rfl, rfl⟩

/-- In a sound state the Event Unit finds nothing to do. -/
theorem EventsSound.observe_self {s : State} (h : EventsSound s) : observe s = s := by
  rw [(observe_quiet h.held.symm h.pulses).1, h.level]

/-- No event at all ends as an event does that changes nothing. -/
theorem EventsSound.reported_idle {s : State} (h : EventsSound s) : Reported s.events 0#32 s.transmit s := by
  have reported := observe_reported s.events s rfl rfl ⟨rfl, rfl, rfl, rfl⟩ rfl rfl
  rwa [h.observe_self, h.pulses] at reported

/-- The Event Unit is sound where it reads what it read in a sound state. -/
theorem EventsSound.congr {s t : State} (h : EventsSound s) (events : t.events = s.events) (alertN : t.alertN = s.alertN)
    (live : liveValues t = liveValues s) : EventsSound t where
  held := by rw [events, live, h.held]
  pulses := events ▸ h.pulses
  alert := by
    rw [events, alertN]
    exact h.alert
  masks := events ▸ h.masks

/-! ### The registers through the work of an event -/

/-- From s to t the held values, the latches, the notice-pending flag and the sequence number stand, and the words of table 12
keep to their stored positions. -/
structure RegistersStand (s t : State) : Prop where
  held : t.events.held = s.events.held
  latches : t.events.latches = s.events.latches
  pending : t.events.pending = s.events.pending
  sequence : t.events.sequence = s.events.sequence
  masked : s.events.Masked → t.events.Masked

section
variable {s t u : State}

theorem RegistersStand.trans (h : RegistersStand s t) (k : RegistersStand t u) : RegistersStand s u :=
  ⟨k.held.trans h.held, k.latches.trans h.latches, k.pending.trans h.pending, k.sequence.trans h.sequence,
    k.masked ∘ h.masked⟩

/-- Work that hands pulse events to the Event Unit and prompts send attempts, and no more. -/
theorem RegistersStand.of_frame
    (frame : t.events = { s.events with pulses := t.events.pulses, attempts := t.events.attempts }) : RegistersStand s t := by
  constructor <;> rw [frame]
  exact id

theorem RegistersStand.refl (s : State) : RegistersStand s s := .of_frame rfl

theorem LineWork.registersStand (h : LineWork s t) : RegistersStand s t := .of_frame (by rw [h.frame])

theorem storeWord_registersStand (s : State) (table i : Nat) (w : Word) : RegistersStand s (storeWord s table i w) := by
  have stored := storeWord_stored s table i w
  refine ⟨by rw [stored], by rw [stored], by rw [stored], by rw [stored], fun masked => ?_⟩
  unfold storeWord
  split
  · split <;> exact masked
  · exact masked
  · exact masked
  · split <;> exact masked
  · split <;> exact masked
  · split <;> exact masked
  · exact storeEvents_masked masked i w
  · exact masked

theorem storeWords_registersStand (s : State) (table index : Nat) (words : List Word) :
    RegistersStand s (storeWords s table index words) := by
  unfold storeWords
  generalize words.zipIdx index = l
  induction l generalizing s with
  | nil => exact .refl s
  | cons wi l ih => exact (storeWord_registersStand s table wi.2 wi.1).trans (ih _)

/-! ### Work that leaves the transmit queues alone -/

/-- COMMAND-DROPPED does not occur where the commands asked about stand. -/
theorem commandDropped_quiet {sides : List Side}
    (same : ∀ x ∈ sides, (t.condition.get x).command = (s.condition.get x).command) :
    commandDropped sides s t = 0#32 := by
  refine if_neg ?_
  rintro ⟨x, mem, manual, gone⟩
  rw [same x mem, manual] at gone
  contradiction

theorem commandDropped_none (s t : State) : commandDropped [] s t = 0#32 := commandDropped_quiet (by simp)

/-- Work from s to t that leaves the transmit queues and the Event Unit alone, but that it raises COMMAND-DROPPED where it
removes a MANUAL command of `sides` (R96). -/
structure EffectWork (sides : List Side) (s t : State) : Prop where
  registers : RegistersStand s t
  transmit : t.transmit = s.transmit
  pulses : s.events.pulses = 0#32 → RestorationSound s → t.events.pulses = commandDropped sides s t

/-- Work that moves no command and raises no pulse. -/
theorem EffectWork.of_quiet {sides : List Side} (registers : RegistersStand s t) (transmit : t.transmit = s.transmit)
    (commands : ∀ x, (t.condition.get x).command = (s.condition.get x).command)
    (pulses : t.events.pulses = s.events.pulses) : EffectWork sides s t :=
  ⟨registers, transmit, fun quiet _ => by rw [pulses, quiet, commandDropped_quiet fun x _ => commands x]⟩

theorem EffectWork.refl (sides : List Side) (s : State) : EffectWork sides s s := .of_quiet (.refl s) rfl (fun _ => rfl) rfl

/-- Work on the lines and the ring that moves commands by a drop alone. -/
theorem LineWork.effectWork (h : LineWork s t) (manual : ManualFollows s t) : EffectWork [.east, .west] s t :=
  ⟨h.registersStand, by rw [h.frame], fun quiet _ => manual.pulses quiet⟩

theorem ManualFollows.of_eq (condition : t.condition = s.condition) (pulses : t.events.pulses = s.events.pulses) :
    ManualFollows s t := (DetectionKept.of_eq condition pulses).manual

end

/-! ### The pins, the receivers and the expiries -/

section
variable (x : Side) (s : State)

theorem losRises_effectWork : EffectWork [.east, .west] s (losRises x s) := by
  have lost (f : Monitor → Monitor) :
      ManualFollows s ((receiverLoses x (s.setLosPin (s.losPin.set x true))).updateMonitor x f) := by
    unfold receiverLoses
    split <;> exact .of_eq rfl rfl
  exact (losRises_ringWork x s).effectWork ((lost _).trans (closeMonitor_manualFollows x [] _))

theorem losFalls_effectWork : EffectWork [.east, .west] s (losFalls x s) := by
  have found (f : Monitor → Monitor) : ManualFollows s ((s.setLosPin (s.losPin.set x false)).updateMonitor x f) :=
    .of_eq rfl rfl
  exact (losFalls_ringWork x s).effectWork ((found _).trans (closeMonitor_manualFollows x [] _))

theorem presyncWord_effectWork (word : Word) :
    EffectWork [.east, .west] s
      (if goodWord word then enterAligned x s else s.updateReceiver x fun r => { r with align := .search }) := by
  have entered (m : Sides Monitor) : ManualFollows s
      (((s.updateReceiver x fun _ => ⟨.aligned, 0, none⟩).updateBuffer x fun _ => ⟨.centering, [], none⟩).setMonitor m) :=
    .of_eq rfl rfl
  refine (presyncWord_ringWork x word s).effectWork ?_
  split
  · exact (entered _).trans (closeMonitor_manualFollows x _ _)
  · exact .of_eq rfl rfl

theorem alignedWord_effectWork (word : Word) : EffectWork [.east, .west] s (alignedWord x word s) := by
  have departed : ManualFollows s (depart x s) := .of_eq rfl rfl
  refine (alignedWord_ringWork x word s).effectWork ?_
  unfold alignedWord
  split
  · exact .of_eq rfl rfl
  · split
    · exact .of_eq rfl rfl
    · exact departed.trans (closeMonitor_manualFollows x [] _)

theorem holdOffExpires_effectWork : EffectWork [.east, .west] s (holdOffExpires x s) := by
  have stands (f : Monitor → Monitor) : ManualFollows s (s.updateMonitor x f) := .of_eq rfl rfl
  exact (holdOffExpires_ringWork x s).effectWork ((stands _).trans (takeReport_detection x _ .standingDefect).2.2)

theorem settleExpires_effectWork : EffectWork [.east, .west] s (settleExpires x s) :=
  (settleExpires_ringWork x s).effectWork (settleExpires_manualFollows x s)

/-- A change of one side's conditions that leaves its command alone, announced. -/
theorem announce_manualFollows {f : ConditionSide → ConditionSide}
    (command : (f (s.condition.get x)).command = (s.condition.get x).command) :
    ManualFollows s (announce (s.updateCondition x f)) := by
  have moved : ManualFollows s (s.updateCondition x f) := by
    refine .inl ⟨fun y => ?_, rfl⟩
    show ((s.condition.set x (f (s.condition.get x))).get y).command = _
    rw [Sides.get_set]
    split
    next same => rw [same, command]
    next => rfl
  exact moved.trans (announce_detectionKept _).manual

theorem wtrExpires_effectWork : EffectWork [.east, .west] s (wtrExpires x s) :=
  (wtrExpires_ringWork x s).effectWork (announce_manualFollows x s rfl)

theorem confirmExpires_effectWork : EffectWork [.east, .west] s (confirmExpires x s) := by
  have acted : ManualFollows s (writeAction (s.updateEngine x Engine.expire) x) := .of_eq rfl rfl
  refine (confirmExpires_ringWork x s).effectWork ?_
  unfold confirmExpires
  dsimp only
  split
  · exact acted.trans (tableNotice_detectionKept _).manual
  · exact acted

end

/-! ### The operator commands -/

section
variable {s : State}

/-- FORCE, and MANUAL where there is no trouble, removes at most the MANUAL of the other side (R93, R96). -/
theorem setCommand_effectWork {force : Bool} (x : Side) (joined : s.joined = true)
    (calm : force = false → s.learnedTrouble = false) :
    EffectWork [.east, .west] s (setCommand x (setValue force) s) where
  registers := (setCommand_ringWork x _ s).registersStand
  transmit := by rw [(setCommand_ringWork x _ s).frame]
  pulses := fun quiet sound => by
    have stands : ((setCommand x (setValue force) s).condition.get x).command ≠ .none := by
      rw [setCommand_command sound joined calm]
      cases force <;> nofun
    rw [setCommand_pulses quiet stands, commandDropped_other rfl stands]

theorem force_effectWork (x : Side) (s : State) (yes : forceAccepted s = true) :
    EffectWork [.east, .west] s (setCommand x .force s) :=
  setCommand_effectWork (force := true) x ((forceAccepted_iff s).1 yes).1 nofun

theorem manual_effectWork (x : Side) (s : State) (yes : manualAccepted s = true) :
    EffectWork [.east, .west] s (setCommand x .manual s) := by
  obtain ⟨joined, calm⟩ := (Bool.and_eq_true _ _).mp yes
  exact setCommand_effectWork (force := false) x joined fun _ => (Bool.not_eq_true' _).mp calm

theorem setParkCommand_effectWork (v : Bool) (s : State) : EffectWork [.east, .west] s (setParkCommand v s) :=
  ⟨(setParkCommand_ringWork v s).registersStand, by rw [(setParkCommand_ringWork v s).frame],
    fun quiet _ => setParkCommand_pulses quiet v⟩

/-- CLEAR removes the command of its side itself, and no MANUAL of the other (R95, R96). -/
theorem clearSide_effectWork (x : Side) (s : State) : EffectWork [x.other] s (clearSide x s) where
  registers := (clearSide_ringWork x s).registersStand
  transmit := by rw [(clearSide_ringWork x s).frame]
  pulses := fun quiet sound => by
    obtain ⟨condition, events⟩ := clearSide_undropped sound x
    rw [events, quiet, commandDropped_quiet fun y other => ?_]
    rw [List.mem_singleton.1 other, condition, Sides.get_set_other]

/-- JOIN moves commands by a drop alone (R56). -/
theorem joinEffect_effectWork (s : State) : EffectWork [.east, .west] s (joinEffect s) :=
  ⟨.of_frame (by rw [joinEffect_frame s]), by rw [joinEffect_frame s],
    fun quiet _ => (joinEffect_detection s).2.pulses quiet⟩

/-- A MANUAL that LEAVE clears is no drop (R57; log 15). -/
theorem leaveEffect_effectWork (s : State) : EffectWork [] s (leaveEffect s) :=
  ⟨.of_frame (by rw [leaveEffect_eq]), by rw [leaveEffect_eq], fun quiet _ => by
    rw [commandDropped_none, leaveEffect_eq]
    exact quiet⟩

end

/-! ### The turns of the Agent (R157) -/

/-- From u, which keeps a place reserved at port q, to v a response takes that place (R155, R157). -/
def Answered (q : Port) (u v : State) : Prop :=
  ∃ answer : Cell, answer.kind = kindResponse ∧ v.transmit = u.transmit.update q (·.fulfil answer)

/-- What a row's service makes of the state u that has taken a request at port q: it is answered or, by a COMMIT that waits,
left to the swap; and the Event Unit is left alone but for a MANUAL removed on `sides` (R96, R157). -/
structure Served (sides : List Side) (q : Port) (u v : State) : Prop where
  registers : RegistersStand u v
  queues : Answered q u v ∨ v.transmit = u.transmit
  pulses : u.events.pulses = 0#32 → RestorationSound u → v.events.pulses = commandDropped sides u v

/-- An effect that is answered. -/
theorem EffectWork.served {sides : List Side} {u v : State} (h : EffectWork sides u v) (q : Port) (c : Cell) (st : Status)
    (words : List Word) : Served sides q u (respond q c st words v) where
  registers := h.registers.trans (.of_frame rfl)
  queues := .inl ⟨responseCell q c v.profile.responseHop v.identity.nodeId (if c.operation = 8#8 then 8#8 else c.count) st
    words, rfl, by rw [← h.transmit]; rfl⟩
  pulses := h.pulses

/-- A row's service answers each request or leaves it to a COMMIT that waits. -/
def ServesAll (sides : List Side) (serve : Port → Cell → State → State) : Prop :=
  ∀ q c u, Served sides q u (serve q c u)

section
variable {sides : List Side} {serve : Port → Cell → State → State}

theorem respond_served (sides : List Side) (q : Port) (c : Cell) (st : Status) (words : List Word) (u : State) :
    Served sides q u (respond q c st words u) := (EffectWork.refl sides u).served q c st words

theorem checked_servesAll (h : ServesAll sides serve) : ServesAll sides (checked serve) := by
  intro q c u
  unfold checked
  split
  · exact h q c u
  · exact respond_served sides q c _ _ u

theorem addressed_servesAll (h : ServesAll sides serve) : ServesAll sides (addressed serve) := by
  intro q c u
  unfold addressed
  split
  · exact respond_served sides q c _ _ u
  · exact h q c u

theorem serveRead_servesAll : ServesAll sides serveRead := by
  intro q c u
  unfold serveRead
  split <;> exact respond_served sides q c _ _ u

theorem countRetry_effectWork (u : State) : EffectWork sides u (countRetry u) :=
  .of_quiet (.of_frame rfl) rfl (fun _ => rfl) rfl

theorem storeWords_effectWork (u : State) (table index : Nat) (words : List Word) :
    EffectWork sides u (storeWords u table index words) := by
  have stored := storeWords_stored u table index words
  exact .of_quiet (storeWords_registersStand u table index words) (by rw [stored]) (fun x => by rw [stored])
    (by rw [stored])

theorem serveWrite_servesAll (form : Word → Word → Word) : ServesAll sides (serveWrite form) := by
  intro q c u
  unfold serveWrite
  dsimp only
  split
  · exact (storeWords_effectWork u _ _ _).served q c _ _
  · exact (countRetry_effectWork u).served q c _ _
  · exact respond_served sides q c _ _ u

theorem serveCommit_servesAll : ServesAll sides serveCommit := by
  intro q c u
  unfold serveCommit
  split
  · exact (countRetry_effectWork u).served q c _ _
  · split
    · exact ⟨.of_frame rfl, .inr rfl, fun quiet _ => quiet.trans (commandDropped_quiet fun _ _ => rfl).symm⟩
    · exact respond_served sides q c _ _ u

theorem serveCommand_servesAll {accepted : State → Bool} {effect : State → State}
    (h : ∀ u, accepted u = true → EffectWork sides u (effect u)) : ServesAll sides (serveCommand accepted effect) := by
  intro q c u
  unfold serveCommand
  split
  next yes => exact (h u yes).served q c _ _
  next => exact respond_served sides q c _ _ u

end

/-! ### The work of a command -/

/-- What the work of command c, from s to u, makes of the Event Unit and of the transmit queues. -/
structure EventWork (c : Instr) (s u : State) : Prop where
  registers : RegistersStand s u
  queues : s.QueuesWorked c u.transmit
  pulses : s.events.pulses = 0#32 → RestorationSound s → u.events.pulses = s.pulsesOf c u

/-- Command c takes s to t as no event, as one event or, while RESET_N is low, as a LOS pin that the reset state follows. -/
inductive Worked (c : Instr) (s : State) : State → Prop
  | idle (quiet : s.resetN = true → s.QueuesWorked c s.transmit ∧ s.pulsesOf c s = 0#32) : Worked c s s
  | taken {f : State → State} (work : EventWork c s (f s)) : Worked c s (event f s)
  | held (low : s.resetN = false) (x : Side) (v : Bool) : Worked c s (losInReset x v s)

section
variable {c : Instr} {s : State} {f : State → State} {sides : List Side} {p : Prop} [Decidable p]

/-- The pulse events of a command are read from the commands of the two sides alone. -/
theorem pulsesOf_congr {t u : State} (condition : t.condition = u.condition) : s.pulsesOf c t = s.pulsesOf c u := by
  have dropped (sides : List Side) : commandDropped sides s t = commandDropped sides s u := commandDropped_congr rfl condition
  unfold State.pulsesOf
  split <;> simp only [dropped]

theorem Worked.guarded (work : EventWork c s (f s)) (idle : Worked c s s) : Worked c s (if p then event f s else s) := by
  split
  · exact .taken work
  · exact idle

/-- A row that touches no queue is idle, where its one pulse is COMMAND-DROPPED. -/
theorem worked_idle (queues : s.QueuesWorked c s.transmit) (drops : s.pulsesOf c s = commandDropped sides s s) :
    Worked c s s :=
  .idle fun _ => ⟨queues, drops.trans (commandDropped_quiet fun _ _ => rfl)⟩

theorem EffectWork.eventWork {u : State} (h : EffectWork sides s u) (queues : s.QueuesWorked c s.transmit)
    (drops : s.pulsesOf c u = commandDropped sides s u) : EventWork c s u where
  registers := h.registers
  queues := h.transmit ▸ queues
  pulses := fun quiet sound => (h.pulses quiet sound).trans drops.symm

/-- An event of such a row, where it is due. -/
theorem EffectWork.worked (h : EffectWork sides s (f s)) (queues : s.QueuesWorked c s.transmit)
    (drops : ∀ t, s.pulsesOf c t = commandDropped sides s t) : Worked c s (if p then event f s else s) :=
  .guarded (h.eventWork queues (drops _)) (worked_idle queues (drops s))

/-- What a turn leaves of the transmit queues: one response more, or one place kept reserved (R136, R157). -/
def State.TurnQueues (s : State) (base : Ports TransmitQueue) : Prop :=
  base = s.transmit ∨ ∃ q request, s.nextTurn = some (q, request) ∧
    ((∃ answer, answer.kind = kindResponse ∧ base = s.transmitWith q answer) ∨
      base = s.transmit.set q { s.transmit.get q with reserved := (s.transmit.get q).reserved + 1 })

/-- A response takes the place that the turn had reserved (R155, R157). -/
theorem takeRequest_fulfil (q : Port) (s : State) (answer : Cell) :
    (takeRequest q s).transmit.update q (·.fulfil answer) = s.transmitWith q answer := by
  cases q <;> rfl

/-- A turn is one event on the request that it takes, or none. -/
theorem turn_worked (kind : Request) {serve : Port → Cell → State → State} (h : ServesAll sides serve)
    (queues : s.QueuesWorked c = s.TurnQueues) (drops : ∀ t, s.pulsesOf c t = commandDropped sides s t) :
    Worked c s (turn kind serve s) := by
  have idle : Worked c s s := worked_idle (queues ▸ .inl rfl) (drops s)
  unfold turn turnAs
  split
  next q r due =>
    have reserved : RegistersStand s (takeRequest q s) := .of_frame rfl
    obtain ⟨registers, left, pulses⟩ := h q r (takeRequest q s)
    refine .guarded (f := fun s => serve q r (takeRequest q s)) ⟨?_, ?_, fun quiet sound => ?_⟩ idle
    · exact reserved.trans registers
    · rw [queues]
      refine .inr ⟨q, r, due, left.imp ?_ id⟩
      rintro ⟨answer, response, placed⟩
      exact ⟨answer, response, placed.trans (takeRequest_fulfil q s answer)⟩
    · exact (pulses quiet (takeRequest_sound q sound)).trans (drops _).symm
  next => exact idle

theorem command_worked (kind : Request) {accepted : State → Bool} {effect : State → State}
    (h : ∀ u, accepted u = true → EffectWork sides u (effect u)) (queues : s.QueuesWorked c = s.TurnQueues)
    (drops : ∀ t, s.pulsesOf c t = commandDropped sides s t) :
    Worked c s (turn kind (checked (serveCommand accepted effect)) s) :=
  turn_worked kind (checked_servesAll (serveCommand_servesAll h)) queues drops

end

/-! ### Frames, the expiries and the swap -/

section
variable (x : Side) (s : State)

/-- The arrival of a line frame: its slips, drops and cell (R11, R17, R96, R151). -/
theorem frameArrival_worked (f : LineFrame) (order : ArrivalOrder) :
    Worked (.alignedFrameArrival x f order) s (if receiving s x .aligned then event (frameArrival x f order) s else s) := by
  have routed := frameArrival_routed x f order s
  have work := (arrivalWork_lineWork x f order s).registersStand
  split
  next receives =>
    refine .taken ⟨?_, .inr (by rw [routed]; rfl), fun quiet _ => ?_⟩
    · rw [routed]
      exact work.trans (.of_frame rfl)
    · have pulses := (arrivalWork_pulses quiet x f order).1
      rw [routed]
      show (arrivalWork x f order s).events.pulses ||| _ = if s.receives x then _ else _
      rw [if_pos (show s.receives x = true from receives), pulses]
      rfl
  next away => exact .idle fun _ => ⟨.inl rfl, if_neg away⟩

/-- The arrival of a tributary frame: its cell (R4, R152). -/
theorem tributaryArrival_worked (f : TributaryFrame) :
    Worked (.tributaryFrameArrival f) s (if s.resetN then event (tributaryArrival f) s else s) := by
  split
  next =>
    refine .taken ⟨?_, by rw [tributaryArrival_eq]; rfl, fun quiet _ => ?_⟩
    · rw [tributaryArrival_eq]
      exact .of_frame rfl
    · rw [tributaryArrival_eq]
      show s.events.pulses ||| _ = (s.tributaryRouted f).pulses
      rw [quiet, BitVec.zero_or]
  next low => exact .idle fun high => absurd high low

theorem takeHoldOffExpiry_worked : Worked (.holdOffExpiry x) s (takeHoldOffExpiry x s) :=
  (holdOffExpires_effectWork x s).worked rfl fun _ => rfl

theorem takeSettleMaskExpiry_worked : Worked (.settleMaskExpiry x) s (takeSettleMaskExpiry x s) :=
  (settleExpires_effectWork x s).worked rfl fun _ => rfl

theorem takeWtrExpiry_worked : Worked (.wtrExpiry x) s (takeWtrExpiry x s) :=
  (wtrExpires_effectWork x s).worked rfl fun _ => rfl

theorem takeConfirmTimerExpiry_worked : Worked (.confirmTimerExpiry x) s (takeConfirmTimerExpiry x s) :=
  (confirmExpires_effectWork x s).worked rfl fun _ => rfl

/-- The swap: its response in the reserved place, and COMMIT-DONE (R137). -/
theorem takeSwap_worked : Worked .commitSwap s (takeSwap s) := by
  unfold takeSwap
  split
  next pc pending =>
    split
    next due =>
      have turn := ((Bool.and_eq_true _ _).mp due).2
      refine .taken ⟨.of_frame rfl, .inr ⟨pc, _, pending, rfl, rfl⟩, fun quiet _ => ?_⟩
      show s.events.pulses ||| _ = if s.tables.commit.isSome && s.instant.swapTurn then _ else _
      rw [quiet, pending, turn, BitVec.zero_or]
      rfl
    next undue =>
      refine .idle fun high => ⟨.inl rfl, if_neg fun due => undue ?_⟩
      rw [high]
      exact ((Bool.and_eq_true _ _).mp due).2
  next free => exact .idle fun _ => ⟨.inl rfl, if_neg (by rw [free]; nofun)⟩

/-- The oldest cell leaves, where there is one (R5, R155). -/
theorem removeCell_transmit (q : Port) : (removeCell q s).transmit = s.transmit.update q TransmitQueue.pop := by
  unfold removeCell
  split
  next empty =>
    have same : (s.transmit.get q).pop = s.transmit.get q := by
      unfold TransmitQueue.pop
      rw [empty, List.tail_nil, ← empty]
    rw [Ports.update, same, Ports.set_get]
  next =>
    dsimp only
    split <;> rfl

theorem Buffer.read_repeats : (s.buffer.get x).read.2.2 = s.repeats x := by
  unfold Buffer.read State.repeats
  split <;> simp_all

/-- A read raises the SLIP of its side where it is a repeat slip (R16). -/
theorem readBuffer_pulses :
    (readBuffer x s).events.pulses =
      s.events.pulses ||| if s.repeats x then 1#32 <<< (Pulse.slip x).bit else 0#32 := by
  unfold readBuffer
  dsimp only
  rw [Buffer.read_repeats]
  split
  · rfl
  · exact BitVec.or_zero.symm

/-- The reads of a local frame start: the queues stand, and each repeat slip is raised (R16, R19). -/
theorem readBuffers_work :
    let t := readBuffer .west (readBuffer .east s)
    RegistersStand s t ∧ t.transmit = s.transmit ∧
      t.events.pulses = s.events.pulses ||| slipPulses (s.repeats .east) (s.repeats .west) := by
  have work := (readBuffer_ringWork .east s).trans (readBuffer_ringWork .west _)
  have other : (readBuffer .east s).repeats .west = s.repeats .west := by
    unfold State.repeats
    rw [readBuffer_buffer]
    rfl
  refine ⟨work.registersStand, by rw [work.frame], ?_⟩
  rw [readBuffer_pulses, readBuffer_pulses, other, BitVec.or_assoc]
  rfl

/-- The frames of a local frame start: the oldest cells leave, and each repeat slip is raised (R5, R16, R155, R171). -/
theorem buildFrames_work :
    RegistersStand s (buildFrames s) ∧ (buildFrames s).transmit = s.transmitSent ∧
      (buildFrames s).events.pulses = s.events.pulses ||| slipPulses (s.repeats .east) (s.repeats .west) := by
  obtain ⟨registers, transmit, pulses⟩ := readBuffers_work (s.setSquelch s.squelchTests)
  have begun (f : SentFrames) (v : FrameInstant) : RegistersStand s (beginFrames f
      (((readBuffer .west (readBuffer .east (s.setSquelch s.squelchTests))).setHolder none).setInstant v)) :=
    ⟨registers.held, registers.latches, registers.pending, registers.sequence, registers.masked⟩
  have removed (q : Port) (u : State) : RegistersStand u (removeCell q u) := .of_frame (by rw [removeCell_frame])
  refine ⟨(((begun _ _).trans (removed _ _)).trans (removed _ _)).trans (removed _ _), ?_, ?_⟩
  · unfold buildFrames
    rw [removeCell_transmit, removeCell_transmit, removeCell_transmit]
    show (((readBuffer .west (readBuffer .east (s.setSquelch s.squelchTests))).transmit.update _ _).update _ _).update _ _ = _
    rw [transmit]
    rfl
  · unfold buildFrames
    rw [removeCell_frame, removeCell_frame, removeCell_frame]
    exact pulses

theorem issueFrameStart_effectWork (sides : List Side) : EffectWork sides s (issueFrameStart s) :=
  .of_quiet (.of_frame rfl) rfl (fun x => by cases x <;> rfl) rfl

/-- The frames built, after the issue where that has not been taken yet. -/
theorem issuedFrames_eventWork : EventWork (.localFrameStart .frames) s (buildFrames s.issued) := by
  obtain ⟨registers, transmit, pulses⟩ := buildFrames_work s.issued
  have issued : RegistersStand s s.issued := .of_frame (by rw [s.issued_frame])
  refine ⟨issued.trans registers, ?_, fun quiet _ => ?_⟩
  · show (buildFrames s.issued).transmit = s.transmitSent
    rw [transmit, State.transmitSent, s.issued_frame]
    rfl
  · show _ = slipPulses (s.repeats .east) (s.repeats .west)
    rw [pulses]
    unfold State.repeats
    rw [s.issued_frame, quiet, BitVec.zero_or]

/-- A local frame start before which nothing is left is one event (log 6). -/
theorem frameStart_worked (part : FrameStartPart) (due : FrameStartDue s) :
    Worked (.localFrameStart part) s (frameStart part s) := by
  cases part with
  | issue =>
    have effect := issueFrameStart_effectWork s [.east, .west]
    unfold frameStart
    cases begun : s.instant.begun with
    | true => exact worked_idle (sides := [.east, .west]) rfl rfl
    | false =>
      have nothing : NothingDue s := due.resolve_left (by rw [begun]; nofun)
      dsimp only
      rw [takeOverdue_nothingDue nothing]
      exact .taken (effect.eventWork rfl rfl)
  | frames =>
    rw [frameStart_frames due]
    exact .taken (issuedFrames_eventWork s)

end

/-! ### Every command -/

/-- The commands that neither reset, nor read and clear, nor send a notice, nor start a local frame. -/
theorem exec_worked (c : Instr) (s : State) (stays : ¬c.resets) (keeps : c ≠ .readClear) (sends : c ≠ .noticeSendAttempt)
    (between : ∀ part, c ≠ .localFrameStart part) : ∃ t, exec c s = .next t ∧ Worked c s t := by
  have unknown (sides : List Side) : ServesAll sides fun q c u => respond q c .unknown [] u :=
    fun q c u => respond_served sides q c _ _ u
  have poll (sides : List Side) : ServesAll sides servePoll := fun q c u => respond_served sides q c _ _ u
  cases c with
  | resetNAssert => exact absurd (.inl rfl) stays
  | resetNRelease straps => exact absurd (.inr ⟨straps, .inl rfl⟩) stays
  | restart straps => exact absurd (.inr ⟨straps, .inr rfl⟩) stays
  | readClear => exact absurd rfl keeps
  | noticeSendAttempt => exact absurd rfl sends
  | localFrameStart part => exact absurd rfl (between part)
  | losAssert x =>
    refine ⟨_, rfl, ?_⟩
    split
    · exact worked_idle (sides := [.east, .west]) rfl rfl
    · split
      next => exact .taken ((losRises_effectWork x s).eventWork rfl rfl)
      next low => exact .held (Bool.eq_false_of_not_eq_true low) x true
  | losRelease x =>
    refine ⟨_, rfl, ?_⟩
    split
    · exact worked_idle (sides := [.east, .west]) rfl rfl
    · split
      next => exact .taken ((losFalls_effectWork x s).eventWork rfl rfl)
      next low => exact .held (Bool.eq_false_of_not_eq_true low) x false
  | alignmentWordFound x =>
    have found (u : State) : EffectWork [.east, .west] u (u.updateReceiver x fun r => { r with align := .presync }) :=
      .of_quiet (.of_frame rfl) rfl (fun _ => rfl) rfl
    exact ⟨_, rfl, (found s).worked rfl fun _ => rfl⟩
  | presyncWordCheck x word => exact ⟨_, rfl, (presyncWord_effectWork x s word).worked rfl fun _ => rfl⟩
  | alignedWordCheck x word => exact ⟨_, rfl, (alignedWord_effectWork x s word).worked rfl fun _ => rfl⟩
  | alignedFrameArrival x frame order => exact ⟨_, rfl, frameArrival_worked x s frame order⟩
  | tributaryFrameArrival frame => exact ⟨_, rfl, tributaryArrival_worked s frame⟩
  | commitSwap => exact ⟨_, rfl, takeSwap_worked s⟩
  | holdOffExpiry x => exact ⟨_, rfl, takeHoldOffExpiry_worked x s⟩
  | settleMaskExpiry x => exact ⟨_, rfl, takeSettleMaskExpiry_worked x s⟩
  | wtrExpiry x => exact ⟨_, rfl, takeWtrExpiry_worked x s⟩
  | confirmTimerExpiry x => exact ⟨_, rfl, takeConfirmTimerExpiry_worked x s⟩
  | read => exact ⟨_, rfl, turn_worked _ (checked_servesAll (addressed_servesAll serveRead_servesAll)) rfl fun _ => rfl⟩
  | write | set | clear =>
    exact ⟨_, rfl, turn_worked _ (checked_servesAll (addressed_servesAll (serveWrite_servesAll _))) rfl fun _ => rfl⟩
  | commit => exact ⟨_, rfl, turn_worked _ (checked_servesAll serveCommit_servesAll) rfl fun _ => rfl⟩
  | poll => exact ⟨_, rfl, turn_worked _ (checked_servesAll (poll _)) rfl fun _ => rfl⟩
  | unknownOperation | unknownCommand =>
    exact ⟨_, rfl, turn_worked _ (checked_servesAll (unknown _)) rfl fun _ => rfl⟩
  | forceEast => exact ⟨_, rfl, command_worked _ (force_effectWork .east) rfl fun _ => rfl⟩
  | forceWest => exact ⟨_, rfl, command_worked _ (force_effectWork .west) rfl fun _ => rfl⟩
  | manualEast => exact ⟨_, rfl, command_worked _ (manual_effectWork .east) rfl fun _ => rfl⟩
  | manualWest => exact ⟨_, rfl, command_worked _ (manual_effectWork .west) rfl fun _ => rfl⟩
  | park => exact ⟨_, rfl, command_worked _ (fun u _ => setParkCommand_effectWork true u) rfl fun _ => rfl⟩
  | clearPark => exact ⟨_, rfl, command_worked _ (fun u _ => setParkCommand_effectWork false u) rfl fun _ => rfl⟩
  | clearEast => exact ⟨_, rfl, command_worked _ (fun u _ => clearSide_effectWork .east u) rfl fun _ => rfl⟩
  | clearWest => exact ⟨_, rfl, command_worked _ (fun u _ => clearSide_effectWork .west u) rfl fun _ => rfl⟩
  | join => exact ⟨_, rfl, command_worked _ (fun u _ => joinEffect_effectWork u) rfl fun _ => rfl⟩
  | leave =>
    exact ⟨_, rfl, command_worked _ (fun u _ => leaveEffect_effectWork u) rfl fun _ => (commandDropped_none _ _).symm⟩

end Sys2Proof.Machine

/-! PROOFS. Every step keeps the invariant of the Event Unit (O7), and every event is latched and notified (O51). -/

namespace Sys2Proof.Machine

/-! ### What every command leaves of the Event Unit -/

section
variable {c : Instr} {s t : State}

/-- A LOS pin that the reset state follows moves the held value with its live condition (R20, R166). -/
theorem losInReset_eventsSound (sound : EventsSound s) (x : Side) (v : Bool) : EventsSound (losInReset x v s) where
  held := liveValues_congr rfl rfl rfl rfl rfl rfl rfl rfl
  pulses := sound.pulses
  alert := sound.alert
  masks := sound.masks

theorem Worked.eventsSound (h : Worked c s t) (sound : EventsSound s) : EventsSound t := by
  cases h with
  | idle => exact sound
  | taken work => exact event_eventsSound (work.registers.masked sound.masked)
  | held _ x v => exact losInReset_eventsSound sound x v

/-- With RESET_N high the command ends as R166 to R172 say, where it wrote no enable. -/
theorem Worked.reported (h : Worked c s t) (high : s.resetN = true) (sound : EventsSound s) (restoration : RestorationSound s)
    (enables : EnablesKept s.events t.events) :
    ∃ base, s.QueuesWorked c base ∧ Reported s.events (s.pulsesOf c t) base t := by
  cases h with
  | idle quiet =>
    obtain ⟨queues, none⟩ := quiet high
    exact ⟨_, queues, none ▸ sound.reported_idle⟩
  | @taken f work =>
    obtain ⟨registers, queues, pulses⟩ := work
    obtain ⟨rise, fall, notify, alert⟩ := event_enables f s
    obtain ⟨rise', fall', notify', alert'⟩ := enables
    have reported := event_reported f s registers.held registers.latches
      ⟨rise.symm.trans rise', fall.symm.trans fall', notify.symm.trans notify', alert.symm.trans alert'⟩ registers.pending
      registers.sequence
    rw [pulses sound.pulses restoration, pulsesOf_congr (t := f s) (u := event f s) (by rw [event_frame])] at reported
    exact ⟨_, queues, reported⟩
  | held low => exact absurd (high.symm.trans low) nofun

end

/-! ### The local frame start (R1, R19; log 6) -/

theorem takeOverdue_eventsSound {s : State} (sound : EventsSound s) : EventsSound (takeOverdue s) :=
  takeOverdue_induction s sound (fun x u => (takeHoldOffExpiry_worked x u).eventsSound)
    (fun x u => (takeSettleMaskExpiry_worked x u).eventsSound) (fun x u => (takeWtrExpiry_worked x u).eventsSound)
    (fun x u => (takeConfirmTimerExpiry_worked x u).eventsSound) fun u => (takeSwap_worked u).eventsSound

/-- What is left of the last local frame start is taken by events before this one's. -/
theorem frameStart_eventsSound (part : FrameStartPart) {s : State} (sound : EventsSound s) :
    EventsSound (frameStart part s) := by
  have overdue := takeOverdue_eventsSound sound
  have issued := (issueFrameStart_effectWork (takeOverdue s) []).registers
  have built := issued.trans (buildFrames_work (issueFrameStart (takeOverdue s))).1
  unfold frameStart
  split
  · exact sound
  · exact event_eventsSound (issued.masked overdue.masked)
  · exact event_eventsSound ((buildFrames_work s).1.masked sound.masked)
  · exact event_eventsSound (f := fun u => buildFrames (issueFrameStart u)) (built.masked overdue.masked)

theorem resetFrameStart_eventsSound (part : FrameStartPart) {s : State} (sound : EventsSound s) :
    EventsSound (resetFrameStart part s) := by
  have begun (f : Option SentFrames) (p : Sides Word) (v : FrameInstant) :
      EventsSound (((s.setSent f).setSentParity p).setInstant v) :=
    sound.congr rfl rfl (liveValues_congr rfl rfl rfl rfl rfl rfl rfl rfl)
  cases part with
  | issue => exact sound
  | frames => exact begun _ _ _

/-! ### READ-CLEAR and the send attempt (R169, R171) -/

theorem clearRead_masked {s : State} (masked : s.events.Masked) (table index count : Nat) :
    (clearRead table index count s).events.Masked := by
  unfold clearRead
  split
  · rw [clearCounters_frame]
    exact masked
  · split
    · exact ⟨BitVec.zero_and, masked.2⟩
    · exact masked

theorem serveReadClear_masked {s : State} (masked : s.events.Masked) (q : Port) (c : Cell) :
    (checked (addressed serveReadClear) q c s).events.Masked := by
  unfold checked addressed serveReadClear
  split
  · split
    · exact masked
    · split
      · exact clearRead_masked masked _ _ _
      · exact masked
  · exact masked

theorem turnReadClear_eventsSound {s : State} (sound : EventsSound s) :
    EventsSound (turnAs readClearEvent .readClear (checked (addressed serveReadClear)) s) := by
  unfold turnAs
  split
  next q c _ =>
    split
    · exact readClearEvent_eventsSound (f := fun s => checked (addressed serveReadClear) q c (takeRequest q s))
        (serveReadClear_masked (s := takeRequest q s) sound.masked q c)
    · exact sound
  next => exact sound

theorem execNoticeSendAttempt_eventsSound {s : State} (sound : EventsSound s) :
    ∃ t, exec .noticeSendAttempt s = .next t ∧ EventsSound t := by
  refine ⟨_, rfl, ?_⟩
  split
  · refine event_eventsSound ?_
    rw [sendAttempt_frame]
    exact sound.masked
  · exact sound

/-! ### Resets (R6, R164, R166) -/

/-- The reset state, with the LOS defects of these pins (R42). -/
def State.resetUnder (los : Sides Bool) : State :=
  { State.reset with monitor := ⟨Monitor.reset los.east, Monitor.reset los.west⟩ }

theorem sideConditions_resetUnder (los : Sides Bool) (x : Side) :
    sideConditions (State.resetUnder los) x = [los.get x, true, false, false, false, false, false, false, false] := by
  cases x <;> rfl

theorem nodeConditions_reset : nodeConditions State.reset = List.replicate 7 false := by decide +kernel

theorem nodeConditions_resetUnder (los : Sides Bool) : nodeConditions (State.resetUnder los) = List.replicate 7 false :=
  nodeConditions_reset

/-- A part reset in every block has its LOF defects, and the LOS defects of its pins, as its live conditions (R42, R166). -/
theorem liveValues_resetUnder (los : Sides Bool) : liveValues (State.resetUnder los) = (EventUnit.reset los).held := by
  apply BitVec.eq_of_getLsbD_eq
  intro i within
  lift i to Fin 32 using within
  rw [reset_held, liveValues, BitVec.getLsbD_ofFnLE, dif_pos i.isLt, nodeConditions_resetUnder, sideConditions_resetUnder,
    sideConditions_resetUnder]
  obtain ⟨east, west⟩ := los
  revert east west i
  decide

theorem EventUnit.reset_masked (los : Sides Bool) : (EventUnit.reset los).Masked := by
  obtain ⟨east, west⟩ := los
  revert east west
  unfold EventUnit.Masked
  decide

theorem resetBlocks_eventsSound {identity : Identity} (alone : identity.joined = false) (s : State) :
    EventsSound (resetBlocks identity s) where
  held := (liveValues_resetUnder s.losPin).symm.trans (liveValues_congr rfl rfl rfl rfl rfl alone.symm rfl rfl)
  pulses := rfl
  alert := ⟨nofun, fun low => absurd BitVec.zero_and low⟩
  masks := EventUnit.reset_masked s.losPin

/-- The Event Unit is sound at either level of RESET_N. -/
theorem setResetN_eventsSound {s : State} (sound : EventsSound s) (level : Bool) : EventsSound (s.setResetN level) :=
  sound.congr rfl rfl (liveValues_congr rfl rfl rfl rfl rfl rfl rfl rfl)

theorem exec_reset_eventsSound {c : Instr} (resets : c.resets) {s : State} (sound : EventsSound s) :
    ∃ t, exec c s = .next t ∧ EventsSound t := by
  rcases resets with rfl | ⟨straps, rfl | rfl⟩
  · refine ⟨_, rfl, ?_⟩
    split
    · exact setResetN_eventsSound (resetBlocks_eventsSound rfl s) false
    · exact sound
  · refine ⟨_, rfl, ?_⟩
    split
    · exact sound
    · exact setResetN_eventsSound (resetBlocks_eventsSound rfl s) true
  · refine ⟨_, rfl, ?_⟩
    split
    next q c _ =>
      split
      · split
        · exact resetBlocks_eventsSound rfl s
        · have answered : RegistersStand s (respond q c .check [] (takeRequest q s)) := .of_frame rfl
          exact event_eventsSound (f := fun s => respond q c .check [] (takeRequest q s)) (answered.masked sound.masked)
      · exact sound
    next => exact sound

/-! ### The two statements -/

theorem exec_eventsSound (c : Instr) {s : State} (sound : EventsSound s) : ∃ t, exec c s = .next t ∧ EventsSound t := by
  by_cases resets : c.resets
  · exact exec_reset_eventsSound resets sound
  by_cases keeps : c = .readClear
  · exact ⟨_, keeps ▸ rfl, turnReadClear_eventsSound sound⟩
  by_cases sends : c = .noticeSendAttempt
  · exact sends ▸ execNoticeSendAttempt_eventsSound sound
  by_cases starts : ∃ part, c = .localFrameStart part
  · obtain ⟨part, rfl⟩ := starts
    refine ⟨_, rfl, ?_⟩
    split
    · exact frameStart_eventsSound part sound
    · exact resetFrameStart_eventsSound part sound
  · obtain ⟨t, ran, worked⟩ := exec_worked c s resets keeps sends (not_exists.1 starts)
    exact ⟨t, ran, worked.eventsSound sound⟩

/-- Settles O7: whatever a command does, it leaves the words of table 12 in their positions, and the end of its event forms the
rest. -/
theorem stepKeepsEventsSound : Obligations.StepKeepsEventsSound := by
  intro s t sound stepped
  unfold step at stepped
  split at stepped
  · cases stepped
    exact sound
  next c rest _ =>
    have waiting : EventsSound (s.setPending rest) :=
      sound.congr rfl rfl (liveValues_congr rfl rfl rfl rfl rfl rfl rfl rfl)
    obtain ⟨u, ran, kept⟩ := exec_eventsSound c waiting
    cases ran.symm.trans stepped
    exact kept

/-- Settles O51: each of these commands is no event or one, and its work leaves the Event Unit's registers to the end of the
event. -/
theorem eventsAreLatchedAndNotified : Obligations.EventsAreLatchedAndNotified := by
  intro s t c high sound restoration ran stays keeps sends due enables
  have worked : Worked c s t := by
    by_cases starts : ∃ part, c = .localFrameStart part
    · obtain ⟨part, rfl⟩ := starts
      have taken : (if s.resetN then frameStart part s else resetFrameStart part s) = t := Host.Outcome.next.inj ran
      rw [if_pos high] at taken
      exact taken ▸ frameStart_worked s part (due part rfl)
    · obtain ⟨u, ran', worked⟩ := exec_worked c s stays keeps sends (not_exists.1 starts)
      cases ran'.symm.trans ran
      exact worked
  exact worked.reported high sound restoration enables

end Sys2Proof.Machine

/-! PROOFS. Two nodes whose tables agree restore alike (O57). -/

namespace Sys2Proof.Machine

/-! ### What the Resolver reads counts an unlearned entry as IDLE and PASS (R61, R101 to R104) -/

theorem learnedPark_iff_counted (s : State) :
    s.learnedPark = true ↔ ∃ p : Fin 32, ∃ x, (s.entry p x).countedCondition = .park := by
  rw [learnedPark_iff]
  refine exists_congr fun p => exists_congr fun x => ?_
  unfold Entry.countedCondition
  cases (s.entry p x).learned <;> simp

theorem quiet_iff_counted (s : State) : s.quiet = true ↔ ∀ q : Fin 32, ∀ x, (s.entry q x).countedAction = .pass := by
  rw [quiet_iff]
  refine forall_congr' fun q => forall_congr' fun x => ?_
  unfold Entry.countedAction
  cases (s.entry q x).learned <;> simp

/-- Every span end counts as the same condition and action in both tables. -/
def CountAlike (s t : State) : Prop :=
  ∀ p x, (s.entry p x).countedCondition = (t.entry p x).countedCondition ∧
    (s.entry p x).countedAction = (t.entry p x).countedAction

/-- R follows N and the conditions that the table counts (R101, R102). -/
theorem CountAlike.chooseRestored {s t : State} (h : CountAlike s t) (n : s.ringMap.n = t.ringMap.n) :
    s.chooseRestored = t.chooseRestored := by
  have spans : s.spanCondition = t.spanCondition := by
    funext k
    unfold State.spanCondition
    rw [n, (h _ _).1, (h _ _).1]
  have park : s.learnedPark = t.learnedPark := by
    rw [Bool.eq_iff_iff, learnedPark_iff_counted, learnedPark_iff_counted]
    simp only [(h _ _).1]
  unfold State.chooseRestored
  rw [n, spans, park]

/-- The ring-quiet flag follows the actions that the table counts (R104). -/
theorem CountAlike.quiet {s t : State} (h : CountAlike s t) : s.quiet = t.quiet := by
  rw [Bool.eq_iff_iff, quiet_iff_counted, quiet_iff_counted]
  simp only [(h _ _).2]

/-- Agreement of two nodes on one span end: both hold it learned with the same condition and action, or one holds it unlearned
and the other holds IDLE and PASS (R176). -/
def Entry.Agrees (a b : Entry) : Prop :=
  (a.learned = true ∧ b.learned = true ∧ a.condition = b.condition ∧ a.action = b.action) ∨
    (a.learned = false ∧ b.condition = .idle ∧ b.action = .pass) ∨
    (b.learned = false ∧ a.condition = .idle ∧ a.action = .pass)

theorem Entry.Agrees.counted {a b : Entry} (agree : a.Agrees b) :
    a.countedCondition = b.countedCondition ∧ a.countedAction = b.countedAction := by
  unfold Entry.countedCondition Entry.countedAction
  rcases agree with ⟨la, lb, condition, action⟩ | ⟨la, condition, action⟩ | ⟨lb, condition, action⟩
  · simp [la, lb, condition, action]
  · simp [la, condition, action]
  · simp [lb, condition, action]

/-- An entry for a position at or above N is unlearned (R61). -/
theorem entry_of_n_le {s : State} (sound : RestorationSound s) (joined : s.joined = true) {p : Nat} (above : s.ringMap.n ≤ p)
    (x : Side) : s.entry p x = Entry.unlearned := by
  have foreign : ¬(s.joined && s.identity.position.any (·.val == p)) = true := by
    rw [Bool.and_eq_true, Option.any_eq_true]
    rintro ⟨-, q, own, same⟩
    have := (sound.identity.ring joined).2 q own
    have := beq_iff_eq.1 same
    omega
  have offset : x.offset < 2 := by cases x <;> decide
  unfold State.entry
  rw [if_neg foreign]
  rcases Nat.lt_or_ge (2 * p + x.offset) 64 with within | beyond
  · rw [elementAt_of_lt _ within]
    exact sound.rct.inert ⟨_, within⟩ (by dsimp only; omega)
  · exact elementAt_of_le _ beyond _

/-! ### A segment is the maximal run that holds any of its positions (R104) -/

/-- From position a the next `length` spans going east are not in R, and the spans before and after them are. -/
structure MaximalRun (n : Nat) (restored : Bits) (a length : Nat) : Prop where
  start : a < n
  short : length < n
  isOpen : OpenEast n restored a length
  last : restored.getLsbD ((a + length) % n) = true
  first : restored.getLsbD ((a + (n - 1)) % n) = true

section
variable {n : Nat} {restored : Bits}

/-- With a span below n in R, the own segment is a maximal run and p lies in it. -/
theorem ownSegment_maximalRun {p k : Nat} (lp : p < n) (lk : k < n) (cut : restored.getLsbD k = true) :
    ∃ a i length, MaximalRun n restored a length ∧ i ≤ length ∧ (a + i) % n = p ∧
      ownSegment n restored p = (a, (a + length) % n) := by
  have some : restored ≠ 0#32 := by
    rintro rfl
    simp at cut
  unfold ownSegment
  rw [if_neg some]
  obtain ⟨i, -, start, back, west, first⟩ := segmentFirst_spec (restored := restored) n lp
  obtain ⟨j, -, ends, east, last⟩ := segmentLast_spec (restored := restored) n lp
  have across : (p + j) % n = (segmentFirst n restored n p + (i + j)) % n := by
    conv_lhs => rw [← back, Nat.mod_add_mod, Nat.add_assoc]
  have run : OpenEast n restored (segmentFirst n restored n p) (i + j) := openEast_append west (back.symm ▸ east)
  refine ⟨_, i, i + j, ⟨start, run.lt start lk cut, run, ?_, first (west.lt start lk cut)⟩, Nat.le_add_right i j, back, ?_⟩
  · exact across ▸ last (east.lt lp lk cut)
  · rw [ends, across]

/-- Of two maximal runs that meet in a position, neither begins east of the other: the span before it would lie in the other. -/
theorem MaximalRun.offset_le {a length i a' length' i' : Nat} (run : MaximalRun n restored a length)
    (run' : MaximalRun n restored a' length') (within : i ≤ length) (meet : (a + i) % n = (a' + i') % n) : i ≤ i' := by
  by_contra later
  have start := run'.start
  have before : (a' + (n - 1)) % n = (a + (i - i' - 1)) % n := by
    refine Nat.ModEq.add_right_cancel' (i' + 1) ?_
    calc a' + (n - 1) + (i' + 1) ≡ a' + i' [MOD n] := by
          rw [show a' + (n - 1) + (i' + 1) = a' + i' + n by omega]
          exact Nat.add_mod_right _ _
      _ ≡ a + i [MOD n] := meet.symm
      _ ≡ a + (i - i' - 1) + (i' + 1) [MOD n] := by rw [show a + (i - i' - 1) + (i' + 1) = a + i by omega]
  have cut := run'.first
  rw [before, run.isOpen _ (by omega)] at cut
  contradiction

/-- Two maximal runs from one position are equally long: the longer would hold the span that ends the other. -/
theorem MaximalRun.length_le {a length length' : Nat} (run : MaximalRun n restored a length)
    (run' : MaximalRun n restored a length') : length ≤ length' := by
  by_contra longer
  have cut := run'.last
  rw [run.isOpen _ (by omega)] at cut
  contradiction

/-- Maximal runs that meet in a position are one. -/
theorem MaximalRun.eq_of_meet {a length i a' length' i' : Nat} (run : MaximalRun n restored a length)
    (run' : MaximalRun n restored a' length') (within : i ≤ length) (within' : i' ≤ length')
    (meet : (a + i) % n = (a' + i') % n) : a = a' ∧ length = length' := by
  have offset : i = i' := (run.offset_le run' within meet).antisymm (run'.offset_le run within' meet.symm)
  subst offset
  have start : a = a' := Nat.ModEq.eq_of_lt_of_lt (Nat.ModEq.add_right_cancel' i meet) run.start run'.start
  subst start
  exact ⟨rfl, (run.length_le run').antisymm (run'.length_le run)⟩

/-- A position in the own segment of q has the own segment of q (R104). -/
theorem ownSegment_eq_of_mem {p q : Nat} (lp : p < n) (lq : q < n)
    (below : ∀ k : Fin 32, restored.getLsbD k = true → k.val < n)
    (inside : (p + n - (ownSegment n restored q).1) % n ≤
      ((ownSegment n restored q).2 + n - (ownSegment n restored q).1) % n) :
    ownSegment n restored p = ownSegment n restored q := by
  by_cases empty : restored = 0#32
  · rw [ownSegment, ownSegment, if_pos empty, if_pos empty]
  · obtain ⟨k, cut⟩ := (exists_getLsbD_of_ne_zero _).1 empty
    obtain ⟨a, i, length, run, within, at', own⟩ := ownSegment_maximalRun lp (below k cut) cut
    obtain ⟨b, -, length', run', -, -, own'⟩ := ownSegment_maximalRun lq (below k cut) cut
    rw [own'] at inside
    obtain ⟨d, -, place, near⟩ := exists_offset run'.start lp
    obtain ⟨e, le, ends, far⟩ := exists_offset run'.start (Nat.mod_lt (b + length') (by omega))
    have within' : d ≤ length' := by
      rw [offset_eq run'.short le ends]
      exact near ▸ far ▸ inside
    obtain ⟨rfl, rfl⟩ := run.eq_of_meet run' within within' (at'.trans place)
    rw [own, own']

end

/-! ### Agreement between nodes (R176) -/

/-- Tables that agree below N count alike throughout, since neither node has learned an entry at N or above. -/
theorem countAlike_of_agrees {s t : State} (soundS : RestorationSound s) (soundT : RestorationSound t) (joinedS : s.joined = true)
    (joinedT : t.joined = true) (ring : s.ringMap = t.ringMap)
    (agree : ∀ (p : Fin 32) (x : Side), p.val < s.ringMap.n → (s.entry p x).Agrees (t.entry p x)) : CountAlike s t := by
  intro p x
  rcases Nat.lt_or_ge p s.ringMap.n with below | above
  · have size := ((complete_iff _).1 (soundS.identity.complete joinedS)).1.2
    exact (agree ⟨p, by omega⟩ x below).counted
  · rw [entry_of_n_le soundS joinedS above, entry_of_n_le soundT joinedT (ring ▸ above)]
    exact ⟨rfl, rfl⟩

/-- The West side of the next position going east faces the span that the East side of p faces (00 Spans and sides). -/
theorem spanFaced_west_next {n p : Nat} (lp : p < n) : spanFaced n ((p + 1) % n) .west = p := by
  show ((p + 1) % n + n - 1) % n = p
  rw [Nat.add_sub_assoc (by omega), Nat.mod_add_mod, Nat.add_assoc, Nat.add_sub_cancel' (by omega), Nat.add_mod_right,
    Nat.mod_eq_of_lt lp]

/-- Settles O57: the two tables count alike, so R and the ring-quiet flag are the same; a segment is the maximal run of any of its
positions; and each end of a span of R takes its target from that span. -/
theorem agreeingNodesRestoreAlike : Obligations.AgreeingNodesRestoreAlike := by
  intro s t soundS soundT joinedS joinedT ring agree
  have alike : CountAlike s t := countAlike_of_agrees soundS soundT joinedS joinedT ring agree
  have chosen : s.chooseRestored = t.chooseRestored := alike.chooseRestored (congrArg _ ring)
  obtain ⟨p, ownS, -⟩ := soundS.identity.position joinedS
  obtain ⟨q, ownT, -⟩ := soundT.identity.position joinedT
  have lp : p.val < s.ringMap.n := (soundS.identity.ring joinedS).2 p ownS
  have lq : q.val < s.ringMap.n := ring ▸ (soundT.identity.ring joinedT).2 q ownT
  have resolverS := resolver_joined soundS joinedS ownS
  have resolverT := resolver_joined soundT joinedT ownT
  have restored : s.resolver.restored = t.resolver.restored := by rw [resolverS, resolverT, chosen]
  refine ⟨restored, by rw [resolverS, resolverT, alike.quiet], fun p' q' own own' inside => ?_,
    fun p' q' own own' east cut => ?_⟩
  all_goals
    cases ownS.symm.trans own
    cases ownT.symm.trans own'
  · rw [resolverT, ← chosen, ← ring] at inside ⊢
    rw [resolverS]
    obtain ⟨a, b, segment, inside⟩ := inside
    have ends := Option.some.inj segment
    refine congrArg some (ownSegment_eq_of_mem lp lq (fun _ => lt_of_chooseRestored) ?_)
    rw [ends]
    exact inside
  · refine ⟨(target_joined soundS joinedS ownS .east).trans cut, (target_joined soundT joinedT ownT .west).trans ?_⟩
    rw [← restored, ← ring, east, spanFaced_west_next lp]
    exact cut

end Sys2Proof.Machine

/-! PROOFS. A step takes the command at the front of the queue (O1), and what the command does leaves the rest of the queue alone
(O2; logs 1 and 2). -/

namespace Sys2Proof.Machine

/-- Settles O1, by the two cases of the queue. -/
theorem stepTakesFrontCommand : Obligations.StepTakesFrontCommand := by
  intro s c rest
  refine ⟨fun front => ?_, fun empty => ?_⟩
  · unfold step
    rw [front]
    rfl
  · unfold step
    rw [empty]

/-! ### The queue of waiting commands through an event -/

section
variable {s t : State} {f : State → State}

theorem LineWork.pending (h : LineWork s t) : t.pending = s.pending := by rw [h.frame]

theorem StoredFrame.pending (h : StoredFrame s t) : t.pending = s.pending := by rw [h]

theorem event_pending (f : State → State) (s : State) : (event f s).pending = (f s).pending := by rw [event_frame]

/-- A row that is one event, or none. -/
theorem guarded_event_pending {p : Prop} [Decidable p] (work : (f s).pending = s.pending) :
    (if p then event f s else s).pending = s.pending := by
  split
  · exact (event_pending f s).trans work
  · rfl

/-- A LOS row: no event where the pin already has its level, else one, or with RESET_N low a pin that the defect follows. -/
theorem losRow_pending {p high : Prop} [Decidable p] [Decidable high] (work : (f s).pending = s.pending) (x : Side)
    (v : Bool) : (if p then s else if high then event f s else losInReset x v s).pending = s.pending := by
  split
  · rfl
  · split
    · exact (event_pending f s).trans work
    · rfl

end

/-! ### The local frame start and what falls due at it -/

section
variable (s : State)

theorem takeHoldOffExpiry_pending (x : Side) : (takeHoldOffExpiry x s).pending = s.pending :=
  guarded_event_pending (holdOffExpires_ringWork x s).pending

theorem takeSettleMaskExpiry_pending (x : Side) : (takeSettleMaskExpiry x s).pending = s.pending :=
  guarded_event_pending (settleExpires_ringWork x s).pending

theorem takeWtrExpiry_pending (x : Side) : (takeWtrExpiry x s).pending = s.pending :=
  guarded_event_pending (wtrExpires_ringWork x s).pending

theorem takeConfirmTimerExpiry_pending (x : Side) : (takeConfirmTimerExpiry x s).pending = s.pending :=
  guarded_event_pending (confirmExpires_ringWork x s).pending

theorem takeSwap_pending : (takeSwap s).pending = s.pending := by
  unfold takeSwap
  split
  next pc _ => exact guarded_event_pending (f := swapTables pc) rfl
  next => rfl

theorem takeOverdue_pending : (takeOverdue s).pending = s.pending :=
  takeOverdue_induction (P := fun u => u.pending = s.pending) s rfl
    (fun x u h => (takeHoldOffExpiry_pending u x).trans h) (fun x u h => (takeSettleMaskExpiry_pending u x).trans h)
    (fun x u h => (takeWtrExpiry_pending u x).trans h) (fun x u h => (takeConfirmTimerExpiry_pending u x).trans h)
    fun u h => (takeSwap_pending u).trans h

theorem issueFrameStart_pending : (issueFrameStart s).pending = s.pending := by rw [issueFrameStart_frame]

theorem removeCell_pending (q : Port) : (removeCell q s).pending = s.pending := by rw [removeCell_frame]

theorem beginFrames_pending (f : SentFrames) : (beginFrames f s).pending = s.pending := by
  rw [beginFrames, State.setSentParity_pending, State.setSent_pending]

theorem buildFrames_pending : (buildFrames s).pending = s.pending := by
  have read := ((readBuffer_ringWork .east (s.setSquelch s.squelchTests)).trans (readBuffer_ringWork .west _)).pending
  unfold buildFrames
  rw [removeCell_pending, removeCell_pending, removeCell_pending, beginFrames_pending]
  exact read

theorem frameStart_pending (part : FrameStartPart) : (frameStart part s).pending = s.pending := by
  have issued : (issueFrameStart (takeOverdue s)).pending = s.pending :=
    (issueFrameStart_pending _).trans (takeOverdue_pending s)
  unfold frameStart
  split
  · rfl
  · exact (event_pending issueFrameStart _).trans issued
  · exact (event_pending buildFrames s).trans (buildFrames_pending s)
  · exact ((event_pending (fun u => buildFrames (issueFrameStart u)) _).trans (buildFrames_pending _)).trans issued

theorem resetFrameStart_pending (part : FrameStartPart) : (resetFrameStart part s).pending = s.pending := by
  cases part with
  | issue => rfl
  | frames => rw [resetFrameStart, State.setInstant_pending, beginFrames_pending]

/-! ### Arrivals and the send attempt -/

theorem frameArrival_pending (x : Side) (f : LineFrame) (order : ArrivalOrder) :
    (frameArrival x f order s).pending = s.pending := by
  rw [frameArrival_routed]
  exact (arrivalWork_lineWork x f order s).pending

theorem tributaryArrival_pending (f : TributaryFrame) : (tributaryArrival f s).pending = s.pending := by
  rw [tributaryArrival_eq]
  rfl

theorem sendAttempt_pending : (sendAttempt s).pending = s.pending := by rw [sendAttempt_frame]

end

/-! ### The turns of the Agent -/

/-- A row's service leaves the queue of waiting commands alone. -/
def ServesPending (serve : Port → Cell → State → State) : Prop :=
  ∀ q c u, (serve q c u).pending = u.pending

section
variable {serve : Port → Cell → State → State}

theorem checked_servesPending (h : ServesPending serve) : ServesPending (checked serve) := by
  intro q c u
  unfold checked
  split
  · exact h q c u
  · rfl

theorem addressed_servesPending (h : ServesPending serve) : ServesPending (addressed serve) := by
  intro q c u
  unfold addressed
  split
  · rfl
  · exact h q c u

theorem serveRead_servesPending : ServesPending serveRead := by
  intro q c u
  unfold serveRead
  split <;> rfl

theorem serveWrite_servesPending (form : Word → Word → Word) : ServesPending (serveWrite form) := by
  intro q c u
  unfold serveWrite
  dsimp only
  split
  · exact (storeWords_stored u _ _ _).pending
  · rfl
  · rfl

theorem clearRead_pending (table index count : Nat) (u : State) : (clearRead table index count u).pending = u.pending := by
  unfold clearRead
  split
  · rw [clearCounters_frame]
  · split <;> rfl

theorem servePoll_servesPending : ServesPending servePoll := fun _ _ _ => rfl

/-- A request of no known operation or command is answered, and nothing else (R159). -/
theorem unknown_servesPending : ServesPending fun q c s => respond q c .unknown [] s := fun _ _ _ => rfl

theorem serveReadClear_servesPending : ServesPending serveReadClear := by
  intro q c u
  unfold serveReadClear
  split
  · exact clearRead_pending _ _ _ u
  · rfl

theorem serveCommit_servesPending : ServesPending serveCommit := by
  intro q c u
  unfold serveCommit
  split
  · rfl
  · split <;> rfl

theorem serveCommand_servesPending (accepted : State → Bool) {effect : State → State}
    (h : ∀ u, (effect u).pending = u.pending) : ServesPending (serveCommand accepted effect) := by
  intro q c u
  unfold serveCommand
  split
  · exact h u
  · rfl

theorem turnAs_pending {close : (State → State) → State → State} (closes : ∀ f u, (close f u).pending = (f u).pending)
    (kind : Request) (serves : ServesPending serve) (s : State) : (turnAs close kind serve s).pending = s.pending := by
  unfold turnAs
  split
  next q c _ =>
    split
    · exact (closes (fun s => serve q c (takeRequest q s)) s).trans (serves q c (takeRequest q s))
    · rfl
  next => rfl

theorem turn_pending (kind : Request) (serves : ServesPending serve) (s : State) : (turn kind serve s).pending = s.pending :=
  turnAs_pending event_pending kind serves s

theorem writeTurn_pending (kind : Request) (form : Word → Word → Word) (s : State) :
    (turn kind (checked (addressed (serveWrite form))) s).pending = s.pending :=
  turn_pending kind (checked_servesPending (addressed_servesPending (serveWrite_servesPending form))) s

theorem commandTurn_pending (kind : Request) (accepted : State → Bool) {effect : State → State}
    (h : ∀ u, (effect u).pending = u.pending) (s : State) :
    (turn kind (checked (serveCommand accepted effect)) s).pending = s.pending :=
  turn_pending kind (checked_servesPending (serveCommand_servesPending accepted h)) s

end

/-- FORCE and MANUAL. -/
theorem setCommand_pending (x : Side) (k : SideCommand) (u : State) : (setCommand x k u).pending = u.pending :=
  (setCommand_ringWork x k u).pending

/-- PARK and CLEAR-PARK. -/
theorem setParkCommand_pending (v : Bool) (u : State) : (setParkCommand v u).pending = u.pending :=
  (setParkCommand_ringWork v u).pending

theorem clearSide_pending (x : Side) (u : State) : (clearSide x u).pending = u.pending := (clearSide_ringWork x u).pending

theorem joinEffect_pending (u : State) : (joinEffect u).pending = u.pending := by rw [joinEffect_frame u]

theorem leaveEffect_pending (u : State) : (leaveEffect u).pending = u.pending := by rw [leaveEffect_eq]

/-! ### Every command -/

theorem resetBlocks_pending (identity : Identity) (s : State) : (resetBlocks identity s).pending = s.pending := rfl

/-- RESTART resets every block, or is answered CHECK, or is no event (R159, R164). -/
theorem execRestart_pending (straps : BitVec 6) (s : State) :
    ∃ t, exec (.restart straps) s = .next t ∧ t.pending = s.pending := by
  refine ⟨_, rfl, ?_⟩
  split
  next q c _ =>
    split
    · split
      · exact resetBlocks_pending _ s
      · rw [event_pending, respond_takeRequest]
    · rfl
  next => rfl

/-- Settles O2, row by row: each row answers a next state, and neither its work nor the end of its event moves the queue. -/
theorem everyCommandAnswersAState : Obligations.EveryCommandAnswersAState := by
  intro s c
  cases c with
  | resetNAssert | resetNRelease straps => exact ⟨_, rfl, by split <;> rfl⟩
  | restart straps => exact execRestart_pending straps s
  | localFrameStart part =>
    refine ⟨_, rfl, ?_⟩
    split
    · exact frameStart_pending s part
    · exact resetFrameStart_pending s part
  | commitSwap => exact ⟨_, rfl, takeSwap_pending s⟩
  | losAssert x => exact ⟨_, rfl, losRow_pending (losRises_ringWork x s).pending x true⟩
  | losRelease x => exact ⟨_, rfl, losRow_pending (losFalls_ringWork x s).pending x false⟩
  | alignmentWordFound x => exact ⟨_, rfl, guarded_event_pending rfl⟩
  | presyncWordCheck x word => exact ⟨_, rfl, guarded_event_pending (presyncWord_ringWork x word s).pending⟩
  | alignedWordCheck x word => exact ⟨_, rfl, guarded_event_pending (alignedWord_ringWork x word s).pending⟩
  | alignedFrameArrival x frame order => exact ⟨_, rfl, guarded_event_pending (frameArrival_pending s x frame order)⟩
  | tributaryFrameArrival frame => exact ⟨_, rfl, guarded_event_pending (tributaryArrival_pending s frame)⟩
  | holdOffExpiry x => exact ⟨_, rfl, takeHoldOffExpiry_pending s x⟩
  | settleMaskExpiry x => exact ⟨_, rfl, takeSettleMaskExpiry_pending s x⟩
  | wtrExpiry x => exact ⟨_, rfl, takeWtrExpiry_pending s x⟩
  | confirmTimerExpiry x => exact ⟨_, rfl, takeConfirmTimerExpiry_pending s x⟩
  | noticeSendAttempt => exact ⟨_, rfl, guarded_event_pending (sendAttempt_pending s)⟩
  | read => exact ⟨_, rfl, turn_pending _ (checked_servesPending (addressed_servesPending serveRead_servesPending)) s⟩
  | write | set | clear => exact ⟨_, rfl, writeTurn_pending _ _ s⟩
  | readClear =>
    exact ⟨_, rfl, turnAs_pending (close := readClearEvent) (fun _ _ => rfl) _
      (checked_servesPending (addressed_servesPending serveReadClear_servesPending)) s⟩
  | commit => exact ⟨_, rfl, turn_pending _ (checked_servesPending serveCommit_servesPending) s⟩
  | poll => exact ⟨_, rfl, turn_pending _ (checked_servesPending servePoll_servesPending) s⟩
  | unknownOperation | unknownCommand => exact ⟨_, rfl, turn_pending _ (checked_servesPending unknown_servesPending) s⟩
  | forceEast | forceWest | manualEast | manualWest =>
    exact ⟨_, rfl, commandTurn_pending _ _ (setCommand_pending _ _) s⟩
  | park | clearPark => exact ⟨_, rfl, commandTurn_pending _ _ (setParkCommand_pending _) s⟩
  | clearEast | clearWest => exact ⟨_, rfl, commandTurn_pending _ _ (clearSide_pending _) s⟩
  | join => exact ⟨_, rfl, commandTurn_pending _ _ joinEffect_pending s⟩
  | leave => exact ⟨_, rfl, commandTurn_pending _ _ leaveEffect_pending s⟩

end Sys2Proof.Machine

/-! PROOFS. While RESET_N is low no row but the rising edge, the frames of a local frame start and the LOS pins does anything, and
these keep every block in its reset state (O9; logs 1, 6, 12). -/

namespace Sys2Proof.Machine

/-! ### Rows that do nothing while RESET_N is low (R1, R4, R6; log 1) -/

section
variable {s : State} (low : s.resetN = false)
include low

theorem turnAs_low (close : (State → State) → State → State) (kind : Request) (serve : Port → Cell → State → State) :
    turnAs close kind serve s = s := by
  unfold turnAs
  rw [low]
  split <;> rfl

theorem turn_low (kind : Request) (serve : Port → Cell → State → State) : turn kind serve s = s :=
  turnAs_low low event kind serve

theorem receiving_low (x : Side) (a : Alignment) : receiving s x a = false := by
  unfold receiving
  rw [low]
  rfl

/-- A row of the line receivers. -/
theorem receivingRow_low (x : Side) (a : Alignment) (f : State → State) :
    (if receiving s x a then event f s else s) = s := by
  rw [receiving_low low]
  rfl

/-- A row whose test asks for RESET_N first. -/
theorem guardedRow_low (p q : Bool) (f : State → State) : (if s.resetN && p && q then event f s else s) = s := by
  rw [low]
  rfl

theorem takeSettleMaskExpiry_low (x : Side) : takeSettleMaskExpiry x s = s := by
  unfold takeSettleMaskExpiry
  rw [low]
  rfl

theorem takeSwap_low : takeSwap s = s := by
  rcases takeSwap_cases s with same | ⟨pc, -, high, -⟩
  · exact same
  · exact absurd (low.symm.trans high) nofun

theorem execRestart_low (straps : BitVec 6) : exec (.restart straps) s = .next s := by
  show execRestart straps s = _
  unfold execRestart
  rw [low]
  split <;> rfl

/-- Every command but the rising edge, the frames of a local frame start and the LOS pins (log 1). -/
theorem exec_low {c : Instr} (rises : ∀ straps, c ≠ .resetNRelease straps) (frames : c ≠ .localFrameStart .frames)
    (pins : ∀ y, c ≠ .losAssert y ∧ c ≠ .losRelease y) : exec c s = .next s := by
  cases c with
  | resetNRelease straps => exact absurd rfl (rises straps)
  | losAssert y => exact absurd rfl (pins y).1
  | losRelease y => exact absurd rfl (pins y).2
  | localFrameStart part =>
    cases part with
    | frames => exact absurd rfl frames
    | issue =>
      show Host.Outcome.next (if s.resetN then _ else _) = _
      rw [low]
      rfl
  | resetNAssert =>
    show Host.Outcome.next (if s.resetN then _ else _) = _
    rw [low]
    rfl
  | tributaryFrameArrival frame =>
    show Host.Outcome.next (if s.resetN then _ else _) = _
    rw [low]
    rfl
  | restart straps => exact execRestart_low low straps
  | commitSwap => exact congrArg _ (takeSwap_low low)
  | alignmentWordFound x | presyncWordCheck x word | alignedWordCheck x word | alignedFrameArrival x frame order =>
    exact congrArg _ (receivingRow_low low x _ _)
  | settleMaskExpiry x => exact congrArg _ (takeSettleMaskExpiry_low low x)
  | holdOffExpiry x | wtrExpiry x | confirmTimerExpiry x | noticeSendAttempt =>
    exact congrArg _ (guardedRow_low low _ _ _)
  | readClear => exact congrArg _ (turnAs_low low _ _ _)
  | read | write | set | clear | commit | poll | forceEast | forceWest | manualEast | manualWest | park | clearPark
  | clearEast | clearWest | join | leave | unknownOperation | unknownCommand => exact congrArg _ (turn_low low _ _)

end

/-! ### The reset frames (R5, R6, R12) -/

/-- An even number of equal slots has no bit set in its sum. -/
theorem foldl_payload_even (n : Nat) (t : Slot) (acc : Payload) :
    (List.replicate (2 * n) t).foldl (fun acc t => acc ^^^ t.payload) acc = acc := by
  induction n with
  | zero => rfl
  | succ n ih =>
    rw [Nat.mul_succ, List.replicate_add, List.foldl_append, ih]
    show acc ^^^ t.payload ^^^ t.payload = acc
    rw [BitVec.xor_assoc, BitVec.xor_self, BitVec.xor_zero]

theorem foldGroups_zero (n : Nat) : foldGroups n 0#9728 = 0#32 := by
  induction n with
  | zero => rfl
  | succ n ih =>
    unfold foldGroups
    rw [ih]
    simp

/-- A frame of 64 VOID slots has 0 in each lane (R12). -/
theorem laneParity_void : laneParity LineSlots.void = 0#32 := by
  unfold laneParity LineSlots.void
  generalize Slot.fill = t
  have sum : payloadSum ((Vector.replicate 32 t).toList ++ (Vector.replicate 32 t).toList) = 0#9728 := by
    rw [Vector.toList_replicate, ← List.replicate_add]
    exact foldl_payload_even 32 t 0#9728
  rw [sum]
  exact foldGroups_zero 304

theorem SigVector.sealed_check (v : SigVector) : v.sealed.check = checkOf v.bytes := by
  unfold SigVector.sealed
  with_reducible rfl

/-- The check field is no part of what the check covers (R178). -/
theorem SigVector.sealed_bytes (v : SigVector) : v.sealed.bytes = v.bytes := by
  unfold SigVector.sealed SigVector.bytes
  with_reducible rfl

/-- A vector whose check field has been computed, with a state that the acceptance tests know, is good (R65, R68). -/
theorem vectorGood_sealed (v : SigVector) (state : v.state = standaloneCode ∨ v.state = joinedCode) :
    vectorGood v.sealed = true := by
  have known : (v.sealed.state == standaloneCode || v.sealed.state == joinedCode) = true := by
    show (v.state == standaloneCode || v.state == joinedCode) = true
    rcases state with h | h <;> rw [h] <;> rfl
  unfold vectorGood
  rw [known, SigVector.sealed_check, SigVector.sealed_bytes, beq_self_eq_true]
  rfl

/-- The reset vector before its check is computed (R6). -/
def resetContent : SigVector :=
  ⟨0x01#8, 0x3F#8, 0#16, 0#16, Vector.replicate 64 0#16, 0#16⟩

theorem resetVector_sealed : resetVector = resetContent.sealed := rfl

/-- The check of the reset vector. -/
def resetCheck : Half := checkOf resetContent.bytes

theorem resetVector_eq : resetVector = { resetContent with check := resetCheck } := by
  rw [resetVector_sealed, SigVector.sealed, resetCheck]

theorem lineFrameOut_reset (s : State) (x : Side) :
    lineFrameOut s x resetVector .absent LineSlots.void = resetLineFrame (s.sentParity.get x) resetCheck := by
  rw [resetVector_eq]
  generalize resetCheck = check
  rfl

/-- The vector of such a frame is good (R6, R68). -/
theorem vectorGood_resetLineFrame (parity : Word) : vectorGood (resetLineFrame parity resetCheck).vector = true := by
  have same : (resetLineFrame parity resetCheck).vector = resetVector := by
    rw [resetVector_eq]
    generalize resetCheck = check
    rfl
  rw [same, resetVector_sealed]
  exact vectorGood_sealed resetContent (.inl rfl)

theorem resetFrames_eq (s : State) :
    resetFrames s = ⟨resetLineFrame s.sentParity.east resetCheck, resetLineFrame s.sentParity.west resetCheck,
      ⟨0x1E7B4D92#32, ⟨0#8, Cell.zero⟩, Vector.replicate 64 Slot.fill⟩⟩ := by
  have east := lineFrameOut_reset s .east
  have west := lineFrameOut_reset s .west
  unfold resetFrames
  rw [east, west]
  generalize resetCheck = check
  rfl

/-- The frames of a local frame start while RESET_N is low (R6). -/
theorem exec_frames_low {s : State} (low : s.resetN = false) :
    exec (.localFrameStart .frames) s = .next
      { s with
        sent := some ⟨resetLineFrame s.sentParity.east resetCheck, resetLineFrame s.sentParity.west resetCheck,
          ⟨0x1E7B4D92#32, ⟨0#8, Cell.zero⟩, Vector.replicate 64 Slot.fill⟩⟩
        sentParity := ⟨0#32, 0#32⟩, instant := ⟨false, false⟩ } := by
  have begun (f : SentFrames) : (beginFrames f s).setInstant ⟨false, false⟩ =
      { s with sent := some f, sentParity := ⟨laneParity f.east.slots, laneParity f.west.slots⟩
               instant := ⟨false, false⟩ } := rfl
  have void : (resetFrames s).east.slots = LineSlots.void ∧ (resetFrames s).west.slots = LineSlots.void := ⟨rfl, rfl⟩
  show Host.Outcome.next (if s.resetN then _ else _) = _
  rw [if_neg (by rw [low]; nofun)]
  refine congrArg _ ((begun (resetFrames s)).trans ?_)
  rw [void.1, void.2, laneParity_void, resetFrames_eq]

/-! ### LOS pins while RESET_N is low (R20, R166) -/

/-- The live conditions in the order of their positions. -/
def liveList (s : State) : List Bool := sideConditions s .east ++ sideConditions s .west ++ nodeConditions s

theorem getLsbD_liveValues (s : State) (i : Fin 32) : (liveValues s).getLsbD i = (liveList s).getD i.val false := by
  unfold liveValues
  rw [BitVec.getLsbD_ofFnLE, dif_pos i.isLt]
  rfl

/-- The position of a side's LOS among the live conditions (11, Event bits). -/
def losPlace : Side → Nat
  | .east => 0
  | .west => 9

theorem liveList_losInReset (s : State) (x : Side) (v : Bool) :
    liveList (losInReset x v s) = (liveList s).set (losPlace x) v := by
  cases x <;> rfl

/-- A LOS pin moves the held value of its LOS alone (R20, R166). -/
theorem held_losInReset {s : State} (sound : EventsSound s) (x : Side) (v : Bool) :
    (losInReset x v s).events.held =
      (s.events.held &&& ~~~(1#32 <<< losPlace x)) ||| if v then 1#32 <<< losPlace x else 0#32 := by
  have live : (losInReset x v s).events.held = liveValues (losInReset x v s) := (losInReset_eventsSound sound x v).held
  have place : losPlace x < (liveList s).length := by
    have length : (liveList s).length = 25 := rfl
    rw [length]
    cases x <;> decide
  have bit (i : Fin 32) : (1#32 <<< losPlace x).getLsbD i = decide (losPlace x = i.val) := by
    revert i
    cases x <;> decide
  rw [live, sound.held]
  apply BitVec.eq_of_getLsbD_eq
  intro i within
  lift i to Fin 32 using within
  have placed (b : Bool) : (if b then 1#32 <<< losPlace x else 0#32).getLsbD i.val = (decide (losPlace x = i.val) && b) := by
    cases b with
    | true => exact (bit i).trans (Bool.and_true _).symm
    | false => simp
  rw [getLsbD_liveValues, liveList_losInReset, List.getD_eq_getElem?_getD, List.getElem?_set]
  simp only [BitVec.getLsbD_or, BitVec.getLsbD_and, BitVec.getLsbD_not, i.isLt, decide_true, Bool.true_and, bit i, placed,
    getLsbD_liveValues]
  by_cases at' : losPlace x = i.val
  · simp [at', at' ▸ place]
  · simp [at']

theorem losInReset_eq {s : State} (sound : EventsSound s) (x : Side) (v : Bool) :
    losInReset x v s = { s with
      losPin := s.losPin.set x v
      monitor := s.monitor.set x { s.monitor.get x with defects := { (s.monitor.get x).defects with los := v } }
      events := { s.events with
        held := (s.events.held &&& ~~~(1#32 <<< losPlace x)) ||| if v then 1#32 <<< losPlace x else 0#32 } } := by
  rw [← held_losInReset sound]
  rfl

theorem exec_losAssert_low {s : State} (low : s.resetN = false) (x : Side) :
    exec (.losAssert x) s = .next (if s.losPin.get x then s else losInReset x true s) := by
  show Host.Outcome.next (if s.losPin.get x then s else if s.resetN then _ else _) = _
  rw [low]
  rfl

theorem exec_losRelease_low {s : State} (low : s.resetN = false) (x : Side) :
    exec (.losRelease x) s = .next (if s.losPin.get x then losInReset x false s else s) := by
  show Host.Outcome.next (if !s.losPin.get x then s else if s.resetN then _ else _) = _
  rw [low]
  cases s.losPin.get x <;> rfl

/-- Settles O9: the frames are those of R6, whose lanes are all 0, a pin moves one live condition, and every other row asks for
RESET_N high. -/
theorem lowResetHoldsEveryBlock : Obligations.LowResetHoldsEveryBlock := by
  intro s c x low sound place losTakes
  have takes (v : Bool) : losInReset x v s = losTakes v := by
    rw [losInReset_eq sound]
    cases x <;> rfl
  refine ⟨⟨resetCheck, exec_frames_low low, vectorGood_resetLineFrame _⟩, ?_, ?_, exec_low low⟩
  · rw [exec_losAssert_low low, takes]
  · rw [exec_losRelease_low low, takes]

end Sys2Proof.Machine

/-! PROOFS. What a Span Monitor event on one side can touch, and how it ends. -/

namespace Sys2Proof.Machine

/-! ### Work on one line and its Span Monitor event (R7 to R28, R86 to R90) -/

/-- From s to t the Line Receivers, the alignment buffers, the Span Monitors and the counters move, and what reports to the
Condition Unit can move. -/
def SpanFrame (s t : State) : Prop :=
  t = { s with
    losPin := t.losPin, receiver := t.receiver, buffer := t.buffer, monitor := t.monitor, condition := t.condition
    signalling := { s.signalling with own := t.signalling.own }, resolver := t.resolver, engine := t.engine
    counters := t.counters, events := { s.events with pulses := t.events.pulses } }

section
variable {s t u : State} {f : State → State}

theorem SpanFrame.trans (h : SpanFrame s t) (k : SpanFrame t u) : SpanFrame s u := by
  unfold SpanFrame at *
  rw [k, h]

theorem RestorationFrame.spanFrame (h : RestorationFrame s t) : SpanFrame s t := by
  unfold SpanFrame
  rw [h]

theorem closeMonitor_spanFrame (x : Side) (changes : List Report) (h : SpanFrame s t) :
    SpanFrame s (closeMonitor x changes t) := by
  have set (m : Sides Monitor) : SpanFrame t (t.setMonitor m) := rfl
  exact (h.trans (set _)).trans (closeMonitor_frame x changes t).spanFrame

/-- Such work as one event touches the Event Unit and the transmit queues besides. -/
theorem SpanFrame.event_frame (h : SpanFrame s (f s)) :
    let t := event f s
    t = { s with
      losPin := t.losPin, receiver := t.receiver, buffer := t.buffer, monitor := t.monitor, condition := t.condition
      signalling := { s.signalling with own := t.signalling.own }, resolver := t.resolver, engine := t.engine
      counters := t.counters, transmit := t.transmit, events := t.events, alertN := t.alertN } := by
  dsimp only
  conv_lhs => rw [Machine.event_frame, h]
  rw [Machine.event_frame]

/-- It is reported as R166 to R172 say, with the COMMAND-DROPPED of a drop as its one pulse event. -/
theorem SpanFrame.event_reported (h : SpanFrame s (f s)) (manual : ManualFollows s (f s)) (sound : EventsSound s) :
    Reported s.events (commandDropped [.east, .west] s (event f s)) s.transmit (event f s) := by
  have pulses := manual.pulses sound.pulses
  have transmit : (f s).transmit = s.transmit := by rw [h]
  rw [commandDropped_congr (s := s) (t := f s) (t' := event f s) rfl (by rw [Machine.event_frame]), ← pulses, ← transmit]
  apply Machine.event_reported <;> rw [h]
  exact ⟨rfl, rfl, rfl, rfl⟩

/-- Work that leaves the conditions and the pulse events alone, and then a Span Monitor event's end. -/
theorem closeMonitor_after (x : Side) (changes : List Report) (condition : t.condition = s.condition)
    (pulses : t.events.pulses = s.events.pulses) : ManualFollows s (closeMonitor x changes t) :=
  (ManualFollows.of_eq condition pulses).trans (closeMonitor_manualFollows x changes t)

/-- The end of an event leaves what the Line Receivers, the buffers, the Span Monitors and the Condition Unit hold. -/
theorem event_lines (f : State → State) (s : State) :
    (event f s).losPin = (f s).losPin ∧ (event f s).receiver = (f s).receiver ∧ (event f s).buffer = (f s).buffer ∧
      (event f s).monitor = (f s).monitor ∧ (event f s).condition = (f s).condition := by
  rw [Machine.event_frame]
  exact ⟨rfl, rfl, rfl, rfl, rfl⟩

@[simp] theorem qualityReports_self (q : Quality) : qualityReports q q = [] := if_pos rfl

end

end Sys2Proof.Machine

/-! PROOFS. The invariant of one line's reception, and the work that keeps it (R7 to R28). -/

namespace Sys2Proof.Machine

/-! ### One side of the reception -/

/-- A side's Line Receiver and alignment buffer, and its Span Monitor, are sound. -/
structure SideSound (s : State) (x : Side) : Prop where
  line : LineSound s x
  monitor : MonitorSound s x

/-- What the soundness of a side reads. -/
def State.reception (s : State) (x : Side) : Bool × Receiver × Buffer × Monitor × Bool :=
  (s.losPin.get x, s.receiver.get x, s.buffer.get x, s.monitor.get x, s.joined)

/-- The side's Span Monitor keeps its invariant but for the flag, which the end of its event forms. -/
structure MonitorReady (s : State) (x : Side) : Prop where
  los : (s.monitor.get x).defects.los = s.losPin.get x
  lof : (s.monitor.get x).defects.lof = true ↔ (s.receiver.get x).align ≠ .aligned
  excessive : (s.monitor.get x).defects.excessive = true ↔ (s.monitor.get x).quality = .excessive
  muteCount : (s.monitor.get x).muteCount ≤ Config.muteLimit
  mute : (s.monitor.get x).defects.mute = true ↔ (s.monitor.get x).muteCount = Config.muteLimit
  density : (s.monitor.get x).density ≤ Config.densityMax
  settle : (s.monitor.get x).settle.isSome → (s.receiver.get x).align = .aligned ∧ (s.monitor.get x).quality = .good
  holding : (s.monitor.get x).holdOffTimer.isSome ↔ (s.monitor.get x).holdOff = .holding
  absent : (s.monitor.get x).holdOff = .absent ↔ (s.joined = false ∨ (s.monitor.get x).flag = false)

/-- From s to t the level of RESET_N stands, and the reception of both lines stays sound. -/
structure ReceptionKept (s t : State) : Prop where
  level : t.resetN = s.resetN
  sides : (∀ x, SideSound s x) → ∀ x, SideSound t x

section
variable {s t u : State} {x : Side} {f : State → State}

theorem SideSound.congr (h : SideSound s x) (same : t.reception x = s.reception x) : SideSound t x := by
  obtain ⟨⟨search, badWords, unaligned, flushed, empty, last, capacity⟩,
    ⟨los, lof, excessive, muteCount, mute, flag, density, settle, holding, absent⟩⟩ := h
  simp only [State.reception, Prod.mk.injEq] at same
  obtain ⟨pin, receiver, buffer, monitor, joined⟩ := same
  constructor
  · constructor <;> simp only [pin, receiver, buffer] <;> assumption
  · constructor <;> simp only [pin, receiver, monitor, joined] <;> assumption

theorem ReceptionKept.refl (s : State) : ReceptionKept s s := ⟨rfl, id⟩

theorem ReceptionKept.trans (h : ReceptionKept s t) (k : ReceptionKept t u) : ReceptionKept s u :=
  ⟨k.level.trans h.level, k.sides ∘ h.sides⟩

theorem ReceptionKept.guarded {p : Prop} [Decidable p] (h : p → ReceptionKept s t) :
    ReceptionKept s (if p then t else s) := by
  split
  next yes => exact h yes
  next => exact .refl s

/-- Work away from the lines keeps their reception. -/
theorem ReceptionKept.of_elsewhere (frame : t = { t with
      resetN := s.resetN, losPin := s.losPin, receiver := s.receiver, buffer := s.buffer, monitor := s.monitor
      identity := { t.identity with joined := s.identity.joined } }) : ReceptionKept s t :=
  ⟨by rw [frame], fun h x => (h x).congr (by rw [frame]; rfl)⟩

/-- A side that is not x is the other one. -/
theorem Side.eq_other {x y : Side} (differs : y ≠ x) : y = x.other := by
  cases x with
  | east =>
    cases y with
    | east => contradiction
    | west => rfl
  | west =>
    cases y with
    | east => rfl
    | west => contradiction

/-- Work on one side keeps the reception where it keeps that side sound. -/
theorem ReceptionKept.of_side (x : Side) (level : t.resetN = s.resetN)
    (other : t.reception x.other = s.reception x.other) (side : SideSound s x → SideSound t x) : ReceptionKept s t := by
  refine ⟨level, fun h y => ?_⟩
  by_cases same : y = x
  · rw [same]
    exact side (h x)
  · rw [Side.eq_other same]
    exact (h x.other).congr other

theorem RestorationFrame.receptionKept (h : RestorationFrame s t) : ReceptionKept s t := .of_elsewhere (by rw [h])

theorem RestorationFrame.reception (h : RestorationFrame s t) (x : Side) : t.reception x = s.reception x := by
  rw [h]
  rfl

/-! ### The end of a Span Monitor event (R25 to R28) -/

/-- A hold-off that starts is HOLDING with its timer running, or STANDING without (R2, R26). -/
theorem Monitor.startHoldOff_holding (m : Monitor) (time : Nat) :
    ((m.startHoldOff time).1.holdOffTimer.isSome ↔ (m.startHoldOff time).1.holdOff = .holding) ∧
      (m.startHoldOff time).1.holdOff ≠ .absent := by
  unfold Monitor.startHoldOff startUnits
  split <;> simp

/-- The hold-off after the flag is formed, where it stood as R26 and R28 say before. -/
theorem Monitor.formFlag_holding {m : Monitor} {joined : Bool} (holding : m.holdOffTimer.isSome ↔ m.holdOff = .holding)
    (absent : m.holdOff = .absent ↔ (joined = false ∨ m.flag = false)) (time : Nat) :
    ((m.formFlag joined time).1.holdOffTimer.isSome ↔ (m.formFlag joined time).1.holdOff = .holding) ∧
      ((m.formFlag joined time).1.holdOff = .absent ↔ (joined = false ∨ m.defects.present = false)) := by
  unfold Monitor.formFlag
  dsimp only
  split
  next rises =>
    cases joined with
    | false => exact ⟨holding, by simpa using absent.2 (.inl rfl)⟩
    | true =>
      obtain ⟨timed, stands⟩ := Monitor.startHoldOff_holding { m with flag := m.defects.present } time
      exact ⟨timed, iff_of_false stands (by simp [rises])⟩
  next => exact ⟨by simp [Monitor.endHoldOff], iff_of_true rfl (.inr ‹_›)⟩
  next =>
    refine ⟨holding, ?_⟩
    cases was : m.flag <;> cases is : m.defects.present <;> simp_all

/-- The flag formed from the defects, with the hold-off that follows it, makes the Span Monitor sound (R25, R26). -/
theorem MonitorReady.formFlag (h : MonitorReady s x) (time : Nat) :
    MonitorSound (s.setMonitor (s.monitor.set x ((s.monitor.get x).formFlag s.joined time).1)) x := by
  obtain ⟨holding, absent⟩ := Monitor.formFlag_holding h.holding h.absent time
  constructor <;> simp only [State.setMonitor_monitor, Sides.get_set_self]
  case holding => exact holding
  all_goals rw [Monitor.formFlag_frame]
  case absent => exact absent
  case los => exact h.los
  case lof => exact h.lof
  case excessive => exact h.excessive
  case muteCount => exact h.muteCount
  case mute => exact h.mute
  case density => exact h.density
  case settle => exact h.settle

/-- A Span Monitor event of side x that has brought s to u, where its flag is formed and its reports are handed over. -/
theorem closeMonitor_receptionKept (changes : List Report) (level : u.resetN = s.resetN)
    (other : u.reception x.other = s.reception x.other)
    (ready : SideSound s x → LineSound u x ∧ MonitorReady u x) : ReceptionKept s (closeMonitor x changes u) := by
  have formed : ReceptionKept s
      (u.setMonitor (u.monitor.set x ((u.monitor.get x).formFlag u.joined u.profile.holdOffTime).1)) := by
    refine .of_side x level ?_ fun h => ?_
    · rw [← other]
      simp [State.reception, State.joined]
    · obtain ⟨line, open'⟩ := ready h
      exact ⟨⟨line.search, line.badWords, line.unaligned, line.flushed, line.empty, line.last, line.capacity⟩,
        open'.formFlag _⟩
  exact formed.trans (closeMonitor_frame x changes u).receptionKept

/-- A Span Monitor event's end alone. -/
theorem MonitorSound.ready (h : MonitorSound s x) : MonitorReady s x :=
  ⟨h.los, h.lof, h.excessive, h.muteCount, h.mute, h.density, h.settle, h.holding, h.absent⟩

/-! ### The receiver (R7 to R10, R20, R21) -/

/-- Between SEARCH and PRESYNC (R7, R8). -/
theorem searching_receptionKept {a : Alignment} (before : (s.receiver.get x).align ≠ .aligned) (after : a ≠ .aligned)
    (heard : s.losPin.get x = false) : ReceptionKept s (s.updateReceiver x fun r => { r with align := a }) := by
  refine .of_side x rfl (by simp [State.reception, State.joined, State.updateReceiver]) fun ⟨line, monitor⟩ => ?_
  have receiver : ((s.updateReceiver x fun r => { r with align := a }).receiver.get x) =
      { s.receiver.get x with align := a } := Sides.get_set_self _ _ _
  constructor
  · refine ⟨fun lost => ?_, ?_, ?_, ?_, line.empty, line.last, line.capacity⟩
    · exact absurd (heard.symm.trans lost) nofun
    all_goals rw [receiver]
    · exact line.badWords
    · exact fun _ => line.unaligned before
    · exact line.flushed.trans (iff_of_true before after)
  · refine ⟨monitor.los, ?_, monitor.excessive, monitor.muteCount, monitor.mute, monitor.flag, monitor.density,
      fun runs => absurd (monitor.settle runs).1 before, monitor.holding, monitor.absent⟩
    rw [receiver]
    exact monitor.lof.trans (iff_of_true before after)

/-- In ALIGNED, where a word is counted or a frame's parity is held (R9, R13). -/
theorem aligned_receptionKept {r : Receiver} (before : (s.receiver.get x).align = .aligned) (after : r.align = .aligned)
    (badWords : SideSound s x → r.badWords < Config.badWordLimit) : ReceptionKept s (s.updateReceiver x fun _ => r) := by
  refine .of_side x rfl (by simp [State.reception, State.joined, State.updateReceiver]) fun sound => ?_
  have ⟨line, monitor⟩ := sound
  have receiver : ((s.updateReceiver x fun _ => r).receiver.get x) = r := Sides.get_set_self _ _ _
  constructor
  · refine ⟨fun lost => ?_, ?_, fun away => ?_, ?_, line.empty, line.last, line.capacity⟩
    · exact absurd (before.symm.trans (line.search lost)) nofun
    all_goals rw [receiver] at *
    · exact badWords sound
    · exact absurd after away
    · exact line.flushed.trans (iff_of_false (not_not.2 before) (not_not.2 after))
  · refine ⟨monitor.los, ?_, monitor.excessive, monitor.muteCount, monitor.mute, monitor.flag, monitor.density,
      fun runs => ?_, monitor.holding, monitor.absent⟩
    all_goals rw [receiver]
    · exact monitor.lof.trans (iff_of_false (not_not.2 before) (not_not.2 after))
    · exact ⟨after, (monitor.settle runs).2⟩

/-- Side x with its signal lost, before the flag is formed: the receiver searches, the buffer is flushed, the settle mask is
cancelled, and a departure from ALIGNED is counted (R9, R10, R14, R20, R21, R41). -/
def State.lost (s : State) (x : Side) (pins : Sides Bool) (defects : Defects) : State :=
  { s with
    losPin := pins, receiver := s.receiver.set x ⟨.search, 0, none⟩, buffer := s.buffer.set x ⟨.flushed, [], none⟩
    monitor := s.monitor.set x { s.monitor.get x with defects := defects, settle := none }
    counters := if (s.receiver.get x).align = .aligned then (s.bump (.alignmentLosses x) 1).counters else s.counters }

/-- A departure from ALIGNED (R9, R10, R21). -/
theorem depart_eq (aligned : (s.receiver.get x).align = .aligned) :
    depart x s = s.lost x s.losPin { (s.monitor.get x).defects with lof := true } := by
  unfold depart State.lost
  rw [if_pos aligned]
  rfl

/-- A side that is not ALIGNED has nothing but its receiver's state to lose. -/
theorem SideSound.lost_eq (h : SideSound s x) (away : (s.receiver.get x).align ≠ .aligned) (pins : Sides Bool)
    (defects : Defects) :
    s.lost x pins defects = { s with
      losPin := pins, receiver := s.receiver.set x Receiver.reset
      monitor := s.monitor.set x { s.monitor.get x with defects := defects } } := by
  have buffer : s.buffer.get x = ⟨.flushed, [], none⟩ := by
    have flushed := h.line.flushed.2 away
    obtain ⟨frames, last⟩ := h.line.empty flushed
    exact (Buffer.mk.injEq ..).symm ▸ ⟨flushed, frames, last⟩
  have settle : (s.monitor.get x).settle = none := by
    have := mt (fun runs => (h.monitor.settle runs).1) away
    simpa using this
  unfold State.lost
  rw [if_neg away, ← buffer, ← settle, Sides.set_get]
  rfl

/-- LOS goes high: whatever the receiver's state, its signal is lost (R10, R20). -/
theorem SideSound.losRises_eq (h : SideSound s x) :
    losRises x s = closeMonitor x []
      (s.lost x (s.losPin.set x true) { (s.monitor.get x).defects with los := true, lof := true }) := by
  unfold losRises
  congr 1
  unfold receiverLoses
  cases align : (s.receiver.get x).align with
  | aligned =>
    rw [State.setLosPin_receiver, align]
    dsimp only
    rw [depart_eq (s := s.setLosPin (s.losPin.set x true)) align]
    unfold State.lost
    rw [State.setLosPin_receiver, if_pos align, if_pos align]
    cases x <;> rfl
  | presync =>
    rw [h.lost_eq (by rw [align]; nofun), State.setLosPin_receiver, align]
    rfl
  | search =>
    have receiver : s.receiver.get x = Receiver.reset := by
      obtain ⟨badWords, parity⟩ := h.line.unaligned (by rw [align]; nofun)
      exact (Receiver.mk.injEq ..).symm ▸ ⟨align, badWords, parity⟩
    rw [h.lost_eq (by rw [align]; nofun), State.setLosPin_receiver, align, ← receiver, Sides.set_get]
    rfl

end

end Sys2Proof.Machine

/-! PROOFS. The pins, the receivers, the frames of a line and the expiries keep its reception sound (R7 to R41). -/

namespace Sys2Proof.Machine

section
variable {s t u : State} {x : Side}

/-! ### A signal lost and found (R8, R10, R14, R20, R21, R39) -/

/-- A side that has lost its signal, at the end of whose event the flag is formed. -/
theorem lost_receptionKept {pins : Sides Bool} {defects : Defects} (pin : pins.get x.other = s.losPin.get x.other)
    (los : SideSound s x → defects.los = pins.get x) (lof : defects.lof = true)
    (kept : defects.mute = (s.monitor.get x).defects.mute ∧ defects.excessive = (s.monitor.get x).defects.excessive) :
    ReceptionKept s (closeMonitor x [] (s.lost x pins defects)) := by
  refine closeMonitor_receptionKept [] rfl ?_ fun sound => ⟨?_, ?_⟩
  · simp [State.reception, State.joined, State.lost, pin]
  · constructor <;> simp [State.lost, Config.badWordLimit]
  · have ⟨mute, excessive⟩ := kept
    have monitor := sound.monitor
    constructor <;> simp only [State.lost, Sides.get_set_self]
    case los => exact los sound
    case lof => exact iff_of_true lof nofun
    case excessive => rw [excessive]; exact monitor.excessive
    case muteCount => exact monitor.muteCount
    case mute => rw [mute]; exact monitor.mute
    case density => exact monitor.density
    case settle => nofun
    case holding => exact monitor.holding
    case absent => exact monitor.absent

theorem losRises_receptionKept (x : Side) (s : State) (sound : SideSound s x) : ReceptionKept s (losRises x s) := by
  rw [sound.losRises_eq]
  exact lost_receptionKept (by simp) (by simp) rfl ⟨rfl, rfl⟩

/-- LOS goes low on a side that searches (R10, R20). -/
theorem losFalls_receptionKept (x : Side) {s : State} (lost : s.losPin.get x = true) : ReceptionKept s (losFalls x s) := by
  refine closeMonitor_receptionKept [] rfl ?_ fun ⟨line, monitor⟩ => ⟨?_, ?_⟩
  · simp [State.reception, State.joined, State.updateMonitor]
  · exact ⟨fun _ => line.search lost, line.badWords, line.unaligned, line.flushed, line.empty, line.last, line.capacity⟩
  · constructor <;> simp only [State.updateMonitor, State.setMonitor_monitor, State.setMonitor_losPin, State.setLosPin_losPin,
      State.setLosPin_monitor, Sides.get_update_self, Sides.get_set_self]
    case los => rfl
    case lof => exact monitor.lof
    case excessive => exact monitor.excessive
    case muteCount => exact monitor.muteCount
    case mute => exact monitor.mute
    case density => exact monitor.density
    case settle => exact monitor.settle
    case holding => exact monitor.holding
    case absent => exact monitor.absent

/-- The word at the expected position (R9). -/
theorem alignedWord_receptionKept {word : Word} (aligned : (s.receiver.get x).align = .aligned) :
    ReceptionKept s (alignedWord x word s) := by
  unfold alignedWord
  split
  · exact aligned_receptionKept (r := { s.receiver.get x with badWords := 0 }) aligned aligned fun _ => Nat.zero_lt_succ _
  split
  next more =>
    exact aligned_receptionKept (r := { s.receiver.get x with badWords := (s.receiver.get x).badWords + 1 }) aligned aligned
      fun _ => more
  · rw [depart_eq aligned]
    exact lost_receptionKept rfl (fun sound => sound.monitor.los) rfl ⟨rfl, rfl⟩

/-- A side's Span Monitor as it enters ALIGNED, before the flag is formed (R39, R41; log 8). -/
def Monitor.entered (m : Monitor) (p : Profile) (x : Side) : Monitor :=
  let m1 := { m.withQuality .good with density := 0, settle := startUnits p.settleTime }
  let m2 := if p.settleTime = 0 then m1.unmasked p x else m1
  { m2 with defects := { m2.defects with lof := false } }

/-- The part with side x entered into ALIGNED, before the flag is formed (R8, R14, R39). -/
def State.entering (s : State) (x : Side) : State :=
  { s with
    receiver := s.receiver.set x ⟨.aligned, 0, none⟩, buffer := s.buffer.set x ⟨.centering, [], none⟩
    monitor := s.monitor.set x ((s.monitor.get x).entered s.profile x) }

/-- What an entry to ALIGNED leaves of the Span Monitor: d is 0, quality is GOOD or, with no settle mask time, what d makes of
it, and the settle mask runs its time (R39, R41). -/
theorem Monitor.entered_eq (m : Monitor) (p : Profile) (x : Side) :
    m.entered p x =
      let q := if p.settleTime = 0 then evaluateQuality (p.tOn.get x) (p.tOff.get x) (p.tFail.get x) .good 0 else .good
      { m with
        defects := { m.defects with lof := false, excessive := q == .excessive }, density := 0, quality := q
        settle := if p.settleTime = 0 then none else some (100 * p.settleTime) } := by
  unfold Monitor.entered
  dsimp only
  by_cases zero : p.settleTime = 0
  · simp only [if_pos zero]
    rfl
  · simp only [if_neg zero]
    rfl

theorem enterAligned_eq (x : Side) (s : State) :
    enterAligned x s = closeMonitor x
      (qualityReports (s.monitor.get x).quality .good ++
        qualityReports .good ((s.monitor.get x).entered s.profile x).quality) (s.entering x) := by
  cases x <;> rfl

theorem enterAligned_receptionKept (heard : s.losPin.get x = false) : ReceptionKept s (enterAligned x s) := by
  rw [enterAligned_eq]
  refine closeMonitor_receptionKept _ rfl ?_ fun ⟨line, monitor⟩ => ⟨?_, ?_⟩
  · simp [State.reception, State.joined, State.entering]
  · constructor <;> simp [State.entering, Config.badWordLimit, heard]
  · constructor <;> simp only [State.entering, Sides.get_set_self, Monitor.entered_eq]
    case los => exact monitor.los
    case lof => simp
    case excessive => exact beq_iff_eq
    case muteCount => exact monitor.muteCount
    case mute => exact monitor.mute
    case density => exact Nat.zero_le _
    case settle =>
      intro runs
      have masked : s.profile.settleTime ≠ 0 := by
        intro zero
        rw [if_pos zero] at runs
        cases runs
      exact ⟨trivial, if_neg masked⟩
    case holding => exact monitor.holding
    case absent => exact monitor.absent

/-- The word at the position where PRESYNC checks it (R8). -/
theorem presyncWord_receptionKept {word : Word} (heard : s.losPin.get x = false)
    (presync : (s.receiver.get x).align = .presync) :
    ReceptionKept s
      (if goodWord word then enterAligned x s else s.updateReceiver x fun r => { r with align := .search }) := by
  split
  · exact enterAligned_receptionKept heard
  · exact searching_receptionKept (by rw [presync]; nofun) nofun heard

end

end Sys2Proof.Machine

/-! PROOFS. The frames of a line, the expiries and the mode keep the reception of the lines sound (R11 to R30, R41, R56, R57). -/

namespace Sys2Proof.Machine

section
variable {s t u : State} {x : Side}

/-! ### The Span Monitor at a frame's arrival (R22 to R24, R29, R30) -/

/-- A side's Span Monitor after a frame's outcome and parity result, before the flag is formed. -/
def Monitor.arrived (m : Monitor) (p : Profile) (x : Side) (outcome : VectorOutcome) : Option Nat → Monitor
  | some v => (m.takeOutcome outcome).takeParity p x v
  | none => m.takeOutcome outcome

/-- The parity counters after a frame's parity result, where it has one (R29). -/
def countedParity (x : Side) (s : State) : Option Nat → State
  | some v => countParity s x v
  | none => s

@[simp] theorem Monitor.takeOutcome_quality (m : Monitor) (outcome : VectorOutcome) :
    (m.takeOutcome outcome).quality = m.quality := by
  cases outcome <;> rfl

theorem countedParity_frame (x : Side) (s : State) (parity : Option Nat) :
    countedParity x s parity = { s with counters := (countedParity x s parity).counters } := by
  cases parity <;> rfl

/-- One Span Monitor event for each frame, with a parity result or without (R22). -/
theorem monitorArrival_eq (x : Side) (outcome : VectorOutcome) (parity : Option Nat) (s : State) :
    monitorArrival x outcome parity s = closeMonitor x
      (qualityReports (s.monitor.get x).quality ((s.monitor.get x).arrived s.profile x outcome parity).quality)
      ((countedParity x s parity).setMonitor
        (s.monitor.set x ((s.monitor.get x).arrived s.profile x outcome parity))) := by
  cases parity with
  | some v => rfl
  | none =>
    have same : qualityReports (s.monitor.get x).quality ((s.monitor.get x).arrived s.profile x outcome none).quality = [] :=
      if_pos (Monitor.takeOutcome_quality _ outcome).symm
    rw [same]
    rfl

/-- MUTE after an outcome is present exactly while the count is 8 (R23). -/
theorem Monitor.takeOutcome_eq {m : Monitor} (mute : m.defects.mute = true ↔ m.muteCount = 8) (outcome : VectorOutcome) :
    m.takeOutcome outcome =
      let k := if outcome = .failed then min (m.muteCount + 1) 8 else 0
      { m with
        muteCount := k
        defects := { m.defects with
          mute := decide (k = 8)
          miswired := (match outcome with
            | .foreign => true
            | .passed => false
            | .failed => m.defects.miswired) } } := by
  cases outcome with
  | failed =>
    have present : (m.defects.mute || min (m.muteCount + 1) 8 == 8) = decide (min (m.muteCount + 1) 8 = 8) := by
      cases is : m.defects.mute with
      | false => rfl
      | true => simp [mute.1 is]
    unfold Monitor.takeOutcome
    simp only [Config.muteLimit, present, ↓reduceIte]
  | foreign | passed => rfl

/-- The estimator follows each parity result, and quality its evaluation where it is made (R30, R36, R40). -/
theorem Monitor.takeParity_eq {m : Monitor} (excessive : m.defects.excessive = true ↔ m.quality = .excessive) (p : Profile)
    (x : Side) (v : Nat) :
    m.takeParity p x v =
      let w := (p.weight.get x).toNat
      let d := estimate m.density v w
      let q := if w = 0 ∨ m.settle ≠ none then m.quality
        else evaluateQuality (p.tOn.get x) (p.tOff.get x) (p.tFail.get x) m.quality d
      { m with density := d, quality := q, defects := { m.defects with excessive := q == .excessive } } := by
  have stands : m.defects.excessive = (m.quality == .excessive) := by
    rw [Bool.eq_iff_iff, beq_iff_eq]
    exact excessive
  unfold Monitor.takeParity
  dsimp only
  simp only [Option.isSome_iff_ne_none]
  split
  · rw [← stands]
  · rfl

/-- What a frame leaves of a sound Span Monitor before the flag is formed (R22 to R24, R30, R36, R40). -/
theorem MonitorSound.arrived_eq (h : MonitorSound s x) (p : Profile) (outcome : VectorOutcome) (parity : Option Nat) :
    (s.monitor.get x).arrived p x outcome parity =
      let m := s.monitor.get x
      let w := (p.weight.get x).toNat
      let k := if outcome = .failed then min (m.muteCount + 1) 8 else 0
      let d := if parity = none then m.density else estimate m.density (parity.getD 0) w
      let q := if parity = none ∨ w = 0 ∨ m.settle ≠ none then m.quality
        else evaluateQuality (p.tOn.get x) (p.tOff.get x) (p.tFail.get x) m.quality d
      { m with
        muteCount := k, density := d, quality := q
        defects :=
          { m.defects with
            mute := decide (k = 8)
            miswired := (match outcome with
              | .foreign => true
              | .passed => false
              | .failed => m.defects.miswired)
            excessive := q == .excessive } } := by
  have outcomeTaken := Monitor.takeOutcome_eq h.mute outcome
  cases parity with
  | none =>
    have stands : ((s.monitor.get x).quality == .excessive) = (s.monitor.get x).defects.excessive := by
      rw [Bool.eq_iff_iff, beq_iff_eq]
      exact h.excessive.symm
    simp only [Monitor.arrived, outcomeTaken, true_or, ↓reduceIte, stands]
  | some v =>
    have excessive : ((s.monitor.get x).takeOutcome outcome).defects.excessive = true ↔
        ((s.monitor.get x).takeOutcome outcome).quality = .excessive := by
      rw [outcomeTaken]
      exact h.excessive
    simp only [Monitor.arrived, Monitor.takeParity_eq excessive, reduceCtorEq, false_or, Option.getD_some, ↓reduceIte]
    rw [outcomeTaken]

theorem monitorArrival_receptionKept (x : Side) (outcome : VectorOutcome) (parity : Option Nat) (s : State) :
    ReceptionKept s (monitorArrival x outcome parity s) := by
  rw [monitorArrival_eq]
  have frame := countedParity_frame x s parity
  refine closeMonitor_receptionKept _ (by rw [frame]; rfl) ?_ fun ⟨line, monitor⟩ => ⟨?_, ?_⟩
  · rw [frame]
    simp [State.reception, State.joined]
  · rw [frame]
    exact ⟨line.search, line.badWords, line.unaligned, line.flushed, line.empty, line.last, line.capacity⟩
  · rw [frame, monitor.arrived_eq]
    constructor <;> simp only [State.setMonitor_monitor, Sides.get_set_self]
    case los => exact monitor.los
    case lof => exact monitor.lof
    case excessive => exact beq_iff_eq
    case muteCount =>
      show _ ≤ 8
      split <;> omega
    case mute => exact decide_eq_true_iff
    case density =>
      split
      · exact monitor.density
      · exact estimate_le _ _ monitor.density
    case settle =>
      intro runs
      have ⟨aligned, good⟩ := monitor.settle runs
      refine ⟨aligned, ?_⟩
      rw [if_pos (.inr (.inr (Option.isSome_iff_ne_none.1 runs)))]
      exact good
    case holding => exact monitor.holding
    case absent => exact monitor.absent

/-! ### The alignment buffers (R14 to R17) -/

/-- A buffer that stays FLUSHED as it is, or keeps its bounds outside FLUSHED. -/
theorem buffer_receptionKept {b : Buffer} (mode : b.mode = .flushed ↔ (s.buffer.get x).mode = .flushed)
    (still : (s.buffer.get x).mode = .flushed → b = s.buffer.get x)
    (last : LineSound s x → b.mode = .running → b.last.isSome) (capacity : LineSound s x → b.frames.length ≤ 4) :
    ReceptionKept s (s.setBuffer (s.buffer.set x b)) := by
  refine .of_side x rfl (by simp [State.reception, State.joined]) fun ⟨line, monitor⟩ => ⟨?_, ?_⟩
  · have now : (s.setBuffer (s.buffer.set x b)).buffer.get x = b := Sides.get_set_self _ _ _
    refine ⟨line.search, line.badWords, line.unaligned, ?_, fun flushed => ?_, ?_, ?_⟩ <;> rw [now] at *
    · exact mode.trans line.flushed
    · rw [still (mode.1 flushed)]
      exact line.empty (mode.1 flushed)
    · exact last line
    · exact capacity line
  · exact ⟨monitor.los, monitor.lof, monitor.excessive, monitor.muteCount, monitor.mute, monitor.flag, monitor.density,
      monitor.settle, monitor.holding, monitor.absent⟩

theorem slip_receptionKept (x : Side) (s : State) : ReceptionKept s (slip x s) := .of_elsewhere rfl

theorem bufferArrival_receptionKept (x : Side) (f : LineSlots) (s : State) : ReceptionKept s (bufferArrival x f s) := by
  have stored (up : (s.buffer.get x).mode ≠ .flushed) :
      ReceptionKept s (s.setBuffer (s.buffer.set x ((s.buffer.get x).store f))) :=
    buffer_receptionKept (by rfl) (fun flushed => absurd flushed up) (fun line => line.last)
      fun line => (Buffer.store_length _ f line.capacity).2
  unfold bufferArrival
  dsimp only
  split
  next => exact .refl s
  next centering => exact stored (by rw [centering]; nofun)
  next running =>
    have kept := stored (by rw [running]; nofun)
    split
    · exact kept
    · exact kept.trans (slip_receptionKept x _)

/-- What a read leaves: a FLUSHED buffer as it is, and one that has given a frame RUNNING with it (R14 to R16). -/
theorem Buffer.read_kept (b : Buffer) :
    (b.read.2.1.mode = .flushed ↔ b.mode = .flushed) ∧ (b.mode = .flushed → b.read.2.1 = b) ∧
      (b.read.2.1.mode = .running → b.read.2.1.last.isSome ∨ b.mode = .running ∧ b.read.2.1 = b) := by
  unfold Buffer.read
  split <;> simp_all

theorem readBuffer_receptionKept (x : Side) (s : State) : ReceptionKept s (readBuffer x s) := by
  obtain ⟨mode, still, last⟩ := (s.buffer.get x).read_kept
  have kept : ReceptionKept s (s.setBuffer (s.buffer.set x (s.buffer.get x).read.2.1)) := by
    refine buffer_receptionKept mode still (fun line runs => ?_) fun line => (Buffer.read_length _).trans line.capacity
    rcases last runs with held | ⟨before, same⟩
    · exact held
    · rw [same]
      exact line.last before
  unfold readBuffer
  dsimp only
  split
  · exact kept.trans (slip_receptionKept x _)
  · exact kept

/-! ### The arrival of a frame (R11, R13) -/

theorem noteVector_receptionKept (s : State) (x : Side) (v : SigVector) : ReceptionKept s (noteVector s x v) :=
  .of_elsewhere (by rw [noteVector_frame])

theorem arrivalMerge_receptionKept (start : Sides OwnEntry) (x : Side) (v : SigVector) (qualifies : Bool) (s : State) :
    ReceptionKept s (arrivalMerge start x v qualifies s) := by
  unfold arrivalMerge mergeVector
  split
  · split
    next p _ =>
      obtain ⟨rct, own, k, eq⟩ := mergeEntries_frame start s x v p.val
      have merged : ReceptionKept s (mergeEntries start s x v p.val) := by
        rw [eq]
        exact .of_elsewhere rfl
      dsimp only
      split
      · exact merged.trans (tableNotice_frame _).receptionKept
      · exact merged
    next => exact .refl s
  · exact .refl s

theorem arrivalWork_receptionKept (x : Side) (f : LineFrame) (order : ArrivalOrder)
    (aligned : (s.receiver.get x).align = .aligned) : ReceptionKept s (arrivalWork x f order s) := by
  have stored := bufferArrival_receptionKept x f.slots s
  have receiver : (bufferArrival x f.slots s).receiver = s.receiver := by rw [bufferArrival_frame x f.slots s]
  have parity : ReceptionKept (bufferArrival x f.slots s) ((bufferArrival x f.slots s).updateReceiver x fun r =>
      { r with heldParity := some (laneParity f.slots) }) :=
    aligned_receptionKept
      (r := { (bufferArrival x f.slots s).receiver.get x with heldParity := some (laneParity f.slots) })
      (by rw [receiver]; exact aligned) (by rw [receiver]; exact aligned) fun sound => sound.line.badWords
  have taken := (stored.trans parity).trans (noteVector_receptionKept _ x f.vector)
  cases order with
  | mergeFirst => exact (taken.trans (arrivalMerge_receptionKept _ x _ _ _)).trans (monitorArrival_receptionKept x _ _ _)
  | monitorFirst => exact (taken.trans (monitorArrival_receptionKept x _ _ _)).trans (arrivalMerge_receptionKept _ x _ _ _)

theorem RoutingFrame.receptionKept (h : RoutingFrame s t) : ReceptionKept s t := .of_elsewhere (by rw [h])

theorem frameArrival_receptionKept (x : Side) (f : LineFrame) (order : ArrivalOrder)
    (aligned : (s.receiver.get x).align = .aligned) : ReceptionKept s (frameArrival x f order s) := by
  rw [frameArrival_eq]
  exact (arrivalWork_receptionKept x f order aligned).trans
    (routeManagement_frame f.management _ (routeLineCell_frame x)).receptionKept

theorem tributaryArrival_receptionKept (f : TributaryFrame) (s : State) : ReceptionKept s (tributaryArrival f s) := by
  have held : ReceptionKept s (s.setHolder (some f.slots)) := .of_elsewhere rfl
  exact .guarded fun _ => held.trans (routeManagement_frame f.management _ routeTributaryCell_frame).receptionKept

/-! ### The hold-off (R26, R28, R41) -/

/-- A side of which the hold-off and its timer alone move, with the mode. -/
theorem SideSound.hold {a : HoldOff} {b : Timer} (h : SideSound s x) (pin : t.losPin.get x = s.losPin.get x)
    (receiver : t.receiver.get x = s.receiver.get x) (buffer : t.buffer.get x = s.buffer.get x)
    (monitor : t.monitor.get x = { s.monitor.get x with holdOff := a, holdOffTimer := b })
    (holding : b.isSome ↔ a = .holding) (absent : a = .absent ↔ (t.joined = false ∨ (s.monitor.get x).flag = false)) :
    SideSound t x := by
  obtain ⟨⟨search, badWords, unaligned, flushed, empty, last, capacity⟩,
    ⟨los, lof, excessive, muteCount, mute, flag, density, settle, -, -⟩⟩ := h
  constructor
  · constructor <;> simp only [pin, receiver, buffer] <;> assumption
  · constructor <;> simp only [pin, receiver, monitor] <;> assumption

/-- A hold-off that expires is STANDING with its timer stopped (R26). -/
theorem holdOffExpires_receptionKept (holding : (s.monitor.get x).holdOff = .holding) :
    ReceptionKept s (holdOffExpires x s) := by
  refine ReceptionKept.trans ?_ (takeReport_frame x _ _).receptionKept
  refine .of_side x rfl (by simp [State.reception, State.joined, State.updateMonitor]) fun sound => ?_
  refine sound.hold rfl rfl rfl (Sides.get_update_self _ _ _) (by simp) (iff_of_false nofun fun absent => ?_)
  exact absurd (holding.symm.trans (sound.monitor.absent.2 absent)) nofun

theorem settleExpires_receptionKept (x : Side) (s : State) : ReceptionKept s (settleExpires x s) := by
  rw [settleExpires_eq]
  refine closeMonitor_receptionKept _ rfl ?_ fun ⟨line, monitor⟩ => ⟨?_, ?_⟩
  · simp [State.reception, State.joined]
  · exact ⟨line.search, line.badWords, line.unaligned, line.flushed, line.empty, line.last, line.capacity⟩
  · constructor <;> simp only [State.setMonitor_monitor, Sides.get_set_self]
    case los => exact monitor.los
    case lof => exact monitor.lof
    case excessive => exact beq_iff_eq
    case muteCount => exact monitor.muteCount
    case mute => exact monitor.mute
    case density => exact monitor.density
    case settle => nofun
    case holding => exact monitor.holding
    case absent => exact monitor.absent

theorem confirmExpires_receptionKept (x : Side) (s : State) : ReceptionKept s (confirmExpires x s) := by
  have acted : ReceptionKept s (writeAction (s.updateEngine x Engine.expire) x) := .of_elsewhere rfl
  unfold confirmExpires
  dsimp only
  split
  · exact acted.trans (tableNotice_frame _).receptionKept
  · exact acted

/-! ### The timers of a local frame start (R2) -/

/-- Timers that run go on running as they count (R2). -/
theorem tickTimers_receptionKept (s : State) : ReceptionKept s (tickTimers s) := by
  refine ⟨rfl, fun h x => ?_⟩
  obtain ⟨line, monitor⟩ := h x
  have ticked : (tickTimers s).monitor.get x =
      { s.monitor.get x with
        holdOffTimer := countDown (s.monitor.get x).holdOffTimer, settle := countDown (s.monitor.get x).settle } := by
    cases x <;> rfl
  constructor
  · exact ⟨line.search, line.badWords, line.unaligned, line.flushed, line.empty, line.last, line.capacity⟩
  · constructor <;> rw [ticked]
    case los => exact monitor.los
    case lof => exact monitor.lof
    case excessive => exact monitor.excessive
    case muteCount => exact monitor.muteCount
    case mute => exact monitor.mute
    case flag => exact monitor.flag
    case density => exact monitor.density
    case settle => rw [countDown_isSome]; exact monitor.settle
    case holding => rw [countDown_isSome]; exact monitor.holding
    case absent => exact monitor.absent

/-! ### The mode (R28, R56, R57) -/

/-- Where the part is STANDALONE, the start of the hold-offs at JOIN makes them what a JOINED part's are (R28). -/
theorem Monitor.started_holding {m : Monitor} (idle : m.holdOffTimer.isSome ↔ m.holdOff = .holding)
    (absent : m.holdOff = .absent) (time : Nat) :
    m.started time = { m with holdOff := (m.started time).holdOff, holdOffTimer := (m.started time).holdOffTimer } ∧
      ((m.started time).holdOffTimer.isSome ↔ (m.started time).holdOff = .holding) ∧
      ((m.started time).holdOff = .absent ↔ m.flag = false) := by
  unfold Monitor.started
  split
  next rises =>
    obtain ⟨timed, stands⟩ := m.startHoldOff_holding time
    refine ⟨?_, timed, iff_of_false stands (by simp [rises])⟩
    unfold Monitor.startHoldOff
    split <;> rfl
  next rests => exact ⟨rfl, idle, iff_of_true absent (by simpa using rests)⟩

/-- A JOIN starts the hold-off of each side whose flag is present (R28). -/
theorem joinEffect_receptionKept (alone : s.joined = false) : ReceptionKept s (joinEffect s) := by
  refine ⟨by rw [joinEffect_frame s], fun h x => ?_⟩
  have monitor := (h x).monitor
  obtain ⟨frame, holding, absent⟩ := Monitor.started_holding monitor.holding (monitor.absent.2 (.inl alone))
    s.profile.holdOffTime
  refine (h x).hold ?_ ?_ ?_ ?_ holding (absent.trans ?_)
  all_goals rw [joinEffect_frame s]
  · rw [← frame]
    cases x <;> rfl
  · simp [State.joined]

/-- A LEAVE ends both hold-offs (R28). -/
theorem leaveEffect_receptionKept (s : State) : ReceptionKept s (leaveEffect s) := by
  refine ⟨by rw [leaveEffect_eq], fun h x => ?_⟩
  refine (h x).hold (a := .absent) (b := none) ?_ ?_ ?_ ?_ (by simp) ?_
  all_goals rw [leaveEffect_eq]
  · cases x <;> rfl
  · simp [State.joined]

end

end Sys2Proof.Machine

/-! PROOFS. Every step keeps the reception of both lines sound (O4). -/

namespace Sys2Proof.Machine

section
variable {s t : State} {x : Side} {f : State → State}

/-! ### Events (R63, R166) -/

theorem ReceptionKept.event (h : ReceptionKept s (f s)) : ReceptionKept s (event f s) :=
  h.trans (.of_elsewhere (by rw [event_frame]))

theorem ReceptionKept.readClearEvent (h : ReceptionKept s (f s)) : ReceptionKept s (readClearEvent f s) :=
  h.trans (.of_elsewhere rfl)

theorem RestorationFrame.event_receptionKept (h : RestorationFrame s (f s)) : ReceptionKept s (Machine.event f s) :=
  h.receptionKept.event

/-! ### The local frame start (R1, R2, R19) -/

theorem removeCell_receptionKept (q : Port) (s : State) : ReceptionKept s (removeCell q s) :=
  .of_elsewhere (by rw [removeCell_frame])

theorem issueFrameStart_receptionKept (s : State) : ReceptionKept s (issueFrameStart s) :=
  (tickTimers_receptionKept s).trans (.of_elsewhere rfl)

theorem buildFrames_receptionKept (s : State) : ReceptionKept s (buildFrames s) := by
  have squelched : ReceptionKept s (s.setSquelch s.squelchTests) := .of_elsewhere rfl
  have read := (squelched.trans (readBuffer_receptionKept .east _)).trans (readBuffer_receptionKept .west _)
  have begun (f : SentFrames) (v : FrameInstant) :=
    read.trans (.of_elsewhere (t := beginFrames f ((State.setHolder _ none).setInstant v)) rfl)
  exact (((begun _ _).trans (removeCell_receptionKept .east _)).trans (removeCell_receptionKept .west _)).trans
    (removeCell_receptionKept .tributary _)

theorem takeHoldOffExpiry_receptionKept (x : Side) (s : State) : ReceptionKept s (takeHoldOffExpiry x s) := by
  rcases takeHoldOffExpiry_cases x s with same | ⟨-, -, holding, taken⟩
  · rw [same]
    exact .refl s
  · rw [taken]
    exact (holdOffExpires_receptionKept holding).event

theorem takeSettleMaskExpiry_receptionKept (x : Side) (s : State) : ReceptionKept s (takeSettleMaskExpiry x s) :=
  .guarded fun _ => (settleExpires_receptionKept x s).event

theorem takeWtrExpiry_receptionKept (x : Side) (s : State) : ReceptionKept s (takeWtrExpiry x s) :=
  .guarded fun _ => RestorationFrame.event_receptionKept (f := wtrExpires x)
    ((updateCondition_frame s x _).trans (announce_frame _))

theorem takeConfirmTimerExpiry_receptionKept (x : Side) (s : State) : ReceptionKept s (takeConfirmTimerExpiry x s) :=
  .guarded fun _ => (confirmExpires_receptionKept x s).event

theorem takeSwap_receptionKept (s : State) : ReceptionKept s (takeSwap s) := by
  rcases takeSwap_cases s with same | ⟨pc, -, -, -, taken⟩
  · rw [same]
    exact .refl s
  · rw [taken]
    exact ReceptionKept.event (.of_elsewhere rfl)

theorem takeOverdue_receptionKept (s : State) : ReceptionKept s (takeOverdue s) :=
  takeOverdue_induction s (.refl s) (fun x u h => h.trans (takeHoldOffExpiry_receptionKept x u))
    (fun x u h => h.trans (takeSettleMaskExpiry_receptionKept x u)) (fun x u h => h.trans (takeWtrExpiry_receptionKept x u))
    (fun x u h => h.trans (takeConfirmTimerExpiry_receptionKept x u)) fun u h => h.trans (takeSwap_receptionKept u)

theorem frameStart_receptionKept (part : FrameStartPart) (s : State) : ReceptionKept s (frameStart part s) := by
  have issued (u : State) := issueFrameStart_receptionKept u
  unfold frameStart
  split
  · exact .refl s
  · exact (takeOverdue_receptionKept s).trans (issued _).event
  · exact (buildFrames_receptionKept s).event
  · exact (takeOverdue_receptionKept s).trans (ReceptionKept.event (f := fun s => buildFrames (issueFrameStart s))
      ((issued _).trans (buildFrames_receptionKept _)))

/-! ### The turns of the Agent (R157) -/

/-- What a row's service makes of the state keeps the reception. -/
def ServesReception (serve : Port → Cell → State → State) : Prop :=
  ∀ q c s, ReceptionKept s (serve q c s)

theorem respond_receptionKept (q : Port) (c : Cell) (st : Status) (words : List Word) (s : State) :
    ReceptionKept s (respond q c st words s) := .of_elsewhere rfl

theorem checked_reception {serve : Port → Cell → State → State} (h : ServesReception serve) :
    ServesReception (checked serve) := by
  intro q c s
  unfold checked
  split
  · exact h q c s
  · exact respond_receptionKept q c _ _ s

theorem addressed_reception {serve : Port → Cell → State → State} (h : ServesReception serve) :
    ServesReception (addressed serve) := by
  intro q c s
  unfold addressed
  split
  · exact respond_receptionKept q c _ _ s
  · exact h q c s

theorem unknown_reception : ServesReception fun q c s => respond q c .unknown [] s :=
  fun q c s => respond_receptionKept q c _ _ s

theorem serveRead_reception : ServesReception serveRead := by
  intro q c s
  unfold serveRead
  split <;> exact respond_receptionKept q c _ _ s

theorem servePoll_reception : ServesReception servePoll := fun q c s => respond_receptionKept q c _ _ s

theorem clearRead_receptionKept (table index count : Nat) (s : State) :
    ReceptionKept s (clearRead table index count s) := by
  unfold clearRead
  split
  · exact .of_elsewhere (by rw [clearCounters_frame])
  · exact .guarded fun _ => .of_elsewhere rfl

theorem serveReadClear_reception : ServesReception serveReadClear := by
  intro q c s
  unfold serveReadClear
  split
  · exact (clearRead_receptionKept _ _ _ s).trans (respond_receptionKept q c _ _ _)
  · exact respond_receptionKept q c _ _ s

theorem countRetry_receptionKept (s : State) : ReceptionKept s (countRetry s) := .of_elsewhere rfl

theorem serveWrite_reception (form : Word → Word → Word) : ServesReception (serveWrite form) := by
  intro q c s
  unfold serveWrite
  dsimp only
  split
  · refine ReceptionKept.trans (.of_elsewhere ?_) (respond_receptionKept q c _ _ _)
    rw [storeWords_stored s _ _ _]
  · exact (countRetry_receptionKept s).trans (respond_receptionKept q c _ _ _)
  · exact respond_receptionKept q c _ _ s

theorem serveCommit_reception : ServesReception serveCommit := by
  intro q c s
  unfold serveCommit
  split
  · exact (countRetry_receptionKept s).trans (respond_receptionKept q c _ _ _)
  · split
    · exact .of_elsewhere rfl
    · exact respond_receptionKept q c _ _ s

theorem serveCommand_reception {accepted : State → Bool} {effect : State → State}
    (h : ∀ s, accepted s = true → ReceptionKept s (effect s)) : ServesReception (serveCommand accepted effect) := by
  intro q c s
  unfold serveCommand
  split
  next yes => exact (h s yes).trans (respond_receptionKept q c _ _ _)
  next => exact respond_receptionKept q c _ _ s

theorem takeRequest_receptionKept (q : Port) (s : State) : ReceptionKept s (takeRequest q s) := .of_elsewhere rfl

theorem turn_receptionKept (kind : Request) {serve : Port → Cell → State → State} (h : ServesReception serve) (s : State) :
    ReceptionKept s (turn kind serve s) := by
  unfold turn turnAs
  split
  next q c _ =>
    exact .guarded fun _ => ReceptionKept.event (f := fun s => serve q c (takeRequest q s))
      ((takeRequest_receptionKept q s).trans (h q c _))
  next => exact .refl s

theorem turnReadClear_receptionKept (s : State) :
    ReceptionKept s (turnAs readClearEvent .readClear (checked (addressed serveReadClear)) s) := by
  unfold turnAs
  split
  next q c _ =>
    exact .guarded fun _ => ReceptionKept.readClearEvent
      (f := fun s => checked (addressed serveReadClear) q c (takeRequest q s))
      ((takeRequest_receptionKept q s).trans (checked_reception (addressed_reception serveReadClear_reception) q c _))
  next => exact .refl s

theorem command_receptionKept (kind : Request) {accepted : State → Bool} {effect : State → State}
    (h : ∀ s, accepted s = true → ReceptionKept s (effect s)) (s : State) :
    ReceptionKept s (turn kind (checked (serveCommand accepted effect)) s) :=
  turn_receptionKept kind (checked_reception (serveCommand_reception h)) s

/-- A command whose effect is an announcement. -/
theorem announcement_receptionKept (kind : Request) {accepted : State → Bool} {change : State → State}
    (h : ∀ s, ReceptionKept s (change s)) (s : State) :
    ReceptionKept s (turn kind (checked (serveCommand accepted fun s => announce (change s))) s) :=
  command_receptionKept kind (fun u _ => (h u).trans (announce_frame _).receptionKept) s

theorem updateCondition_receptionKept (x : Side) (g : ConditionSide → ConditionSide) (s : State) :
    ReceptionKept s (s.updateCondition x g) := .of_elsewhere rfl

theorem setPark_receptionKept (v : Bool) (s : State) : ReceptionKept s (s.setPark v) := .of_elsewhere rfl

/-! ### Resets (R6, R7, R14, R42, R46, R164) -/

/-- The reset state of a side is sound. -/
theorem resetBlocks_sideSound {identity : Identity} (alone : identity.joined = false) (s : State) (x : Side) :
    SideSound (resetBlocks identity s) x := by
  have receiver : (resetBlocks identity s).receiver.get x = Receiver.reset := by cases x <;> rfl
  have buffer : (resetBlocks identity s).buffer.get x = Buffer.reset := by cases x <;> rfl
  have monitor : (resetBlocks identity s).monitor.get x = Monitor.reset (s.losPin.get x) := by cases x <;> rfl
  constructor
  · constructor <;> simp [receiver, buffer, Receiver.reset, Buffer.reset, Config.badWordLimit]
  · constructor <;> rw [monitor]
    case los => rfl
    case lof => rw [receiver]; exact iff_of_true rfl nofun
    case absent => exact iff_of_true rfl (.inl alone)
    case flag => simp [Monitor.reset, Defects.present]
    all_goals simp [Monitor.reset, Config.muteLimit]

/-- A part that is low is reset in every block, and so its lines are (R6). -/
theorem ResetHeld.sideSound (held : ResetHeld s) (low : s.resetN = false) (x : Side) : SideSound s x := by
  obtain ⟨alone, reset⟩ := held low
  rw [reset]
  exact resetBlocks_sideSound alone s x

theorem resetHeld_of_high (high : s.resetN = true) : ResetHeld s := fun low => absurd (high.symm.trans low) nofun

theorem resetHeld_resetBlocks {identity : Identity} (alone : identity.joined = false) (s : State) (level : Bool) :
    ResetHeld ((resetBlocks identity s).setResetN level) := fun _ => ⟨alone, rfl⟩

/-- A part reset in every block is sound at its lines, at either level of RESET_N. -/
theorem resetBlocks_receptionSound {identity : Identity} (alone : identity.joined = false) (s : State) (level : Bool) :
    ReceptionSound ((resetBlocks identity s).setResetN level) := by
  have side (x : Side) : SideSound ((resetBlocks identity s).setResetN level) x :=
    (resetBlocks_sideSound alone s x).congr rfl
  exact ⟨resetHeld_resetBlocks alone s level, fun x => (side x).line, fun x => (side x).monitor⟩

/-- Work above reset that keeps the lines sound. -/
theorem ReceptionKept.sound (h : ReceptionKept s t) (sound : ReceptionSound s) (high : s.resetN = true) :
    ReceptionSound t :=
  have sides := h.sides fun x => ⟨sound.line x, sound.monitor x⟩
  ⟨resetHeld_of_high (h.level.trans high), fun x => (sides x).line, fun x => (sides x).monitor⟩

/-! ### While RESET_N is low (R6, R20) -/

/-- A LOS pin that moves at a part reset in every block leaves it so, with the pin's level its LOS defect (R6, R20, R166). -/
theorem losInReset_resetBlocks {identity : Identity} (alone : identity.joined = false) (s : State) (x : Side) (v : Bool) :
    losInReset x v (resetBlocks identity s) = resetBlocks identity (s.setLosPin (s.losPin.set x v)) := by
  have monitor : ((resetBlocks identity s).monitor.update x (·.withLos v)) =
      (State.resetUnder (s.losPin.set x v)).monitor := by cases x <;> rfl
  have live : liveValues (((resetBlocks identity s).setLosPin (s.losPin.set x v)).updateMonitor x (·.withLos v)) =
      (EventUnit.reset (s.losPin.set x v)).held :=
    (liveValues_congr (t := ((resetBlocks identity s).setLosPin (s.losPin.set x v)).updateMonitor x (·.withLos v))
      (s := State.resetUnder (s.losPin.set x v)) monitor rfl rfl rfl rfl alone rfl rfl).trans
      (liveValues_resetUnder (s.losPin.set x v))
  unfold losInReset
  dsimp only
  rw [show (resetBlocks identity s).losPin = s.losPin from rfl, live]
  cases x <;> rfl

theorem losInReset_resetHeld (held : ResetHeld s) (low : s.resetN = false) (x : Side) (v : Bool) :
    ResetHeld (losInReset x v s) := by
  obtain ⟨alone, reset⟩ := held low
  refine fun _ => ⟨alone, ?_⟩
  rw [reset, losInReset_resetBlocks alone]
  rfl

/-- A part that stays low and reset in every block is sound at its lines. -/
theorem ResetHeld.receptionSound (held : ResetHeld s) (low : s.resetN = false) : ReceptionSound s :=
  have sides := held.sideSound low
  ⟨held, fun x => (sides x).line, fun x => (sides x).monitor⟩

theorem exec_receptionSound_low (c : Instr) (sound : ReceptionSound s) (low : s.resetN = false) :
    ∃ t, exec c s = .next t ∧ ReceptionSound t := by
  have pin (x : Side) (v : Bool) : ReceptionSound (losInReset x v s) :=
    (losInReset_resetHeld sound.reset low x v).receptionSound low
  by_cases rises : ∃ straps, c = .resetNRelease straps
  · obtain ⟨straps, rfl⟩ := rises
    refine ⟨_, rfl, ?_⟩
    rw [low]
    exact resetBlocks_receptionSound rfl s true
  by_cases frames : c = .localFrameStart .frames
  · rw [frames]
    refine ⟨_, exec_frames_low low, ResetHeld.receptionSound (fun _ => ?_) low⟩
    obtain ⟨alone, reset⟩ := sound.reset low
    refine ⟨alone, ?_⟩
    conv_lhs => rw [reset]
    rfl
  by_cases pins : ∃ y, c = .losAssert y ∨ c = .losRelease y
  · obtain ⟨y, rfl | rfl⟩ := pins
    · refine ⟨_, exec_losAssert_low low y, ?_⟩
      split
      · exact sound
      · exact pin y true
    · refine ⟨_, exec_losRelease_low low y, ?_⟩
      split
      · exact pin y false
      · exact sound
  · push Not at rises pins
    exact ⟨s, exec_low low rises frames pins, sound⟩

/-! ### Every command -/

theorem receiving_iff (s : State) (x : Side) (a : Alignment) :
    receiving s x a = true ↔ s.resetN = true ∧ s.losPin.get x = false ∧ (s.receiver.get x).align = a := by
  simp [receiving, and_assoc]

/-- Above reset every command but a reset keeps the lines' reception. -/
theorem exec_receptionKept (c : Instr) (stays : ¬c.resets) (high : s.resetN = true) (sides : ∀ x, SideSound s x) :
    ∃ t, exec c s = .next t ∧ ReceptionKept s t := by
  cases c with
  | resetNAssert => exact absurd (.inl rfl) stays
  | resetNRelease straps => exact absurd (.inr ⟨straps, .inl rfl⟩) stays
  | restart straps => exact absurd (.inr ⟨straps, .inr rfl⟩) stays
  | localFrameStart part =>
    refine ⟨_, rfl, ?_⟩
    rw [if_pos high]
    exact frameStart_receptionKept part s
  | commitSwap => exact ⟨_, rfl, takeSwap_receptionKept s⟩
  | losAssert x =>
    refine ⟨_, rfl, ?_⟩
    rw [if_pos high]
    split
    · exact .refl s
    · exact (losRises_receptionKept x s (sides x)).event
  | losRelease x =>
    refine ⟨_, rfl, ?_⟩
    rw [if_pos high]
    split
    · exact .refl s
    next asserted => exact (losFalls_receptionKept x (by simpa using asserted)).event
  | alignmentWordFound x =>
    refine ⟨_, rfl, .guarded fun hears => ?_⟩
    obtain ⟨-, heard, search⟩ := (receiving_iff s x _).1 hears
    exact ReceptionKept.event (f := fun s => s.updateReceiver x fun r => { r with align := .presync })
      (searching_receptionKept (by rw [search]; nofun) nofun heard)
  | presyncWordCheck x word =>
    refine ⟨_, rfl, .guarded fun hears => ?_⟩
    obtain ⟨-, heard, presync⟩ := (receiving_iff s x _).1 hears
    exact (presyncWord_receptionKept heard presync).event
  | alignedWordCheck x word =>
    refine ⟨_, rfl, .guarded fun hears => ?_⟩
    obtain ⟨-, -, aligned⟩ := (receiving_iff s x _).1 hears
    exact (alignedWord_receptionKept aligned).event
  | alignedFrameArrival x frame order =>
    refine ⟨_, rfl, .guarded fun hears => ?_⟩
    obtain ⟨-, -, aligned⟩ := (receiving_iff s x _).1 hears
    exact (frameArrival_receptionKept x frame order aligned).event
  | holdOffExpiry x => exact ⟨_, rfl, takeHoldOffExpiry_receptionKept x s⟩
  | settleMaskExpiry x => exact ⟨_, rfl, takeSettleMaskExpiry_receptionKept x s⟩
  | wtrExpiry x => exact ⟨_, rfl, takeWtrExpiry_receptionKept x s⟩
  | confirmTimerExpiry x => exact ⟨_, rfl, takeConfirmTimerExpiry_receptionKept x s⟩
  | tributaryFrameArrival frame => exact ⟨_, rfl, .guarded fun _ => (tributaryArrival_receptionKept frame s).event⟩
  | read => exact ⟨_, rfl, turn_receptionKept _ (checked_reception (addressed_reception serveRead_reception)) s⟩
  | write => exact ⟨_, rfl, turn_receptionKept _ (checked_reception (addressed_reception (serveWrite_reception _))) s⟩
  | set => exact ⟨_, rfl, turn_receptionKept _ (checked_reception (addressed_reception (serveWrite_reception _))) s⟩
  | clear => exact ⟨_, rfl, turn_receptionKept _ (checked_reception (addressed_reception (serveWrite_reception _))) s⟩
  | readClear => exact ⟨_, rfl, turnReadClear_receptionKept s⟩
  | commit => exact ⟨_, rfl, turn_receptionKept _ (checked_reception serveCommit_reception) s⟩
  | poll => exact ⟨_, rfl, turn_receptionKept _ (checked_reception servePoll_reception) s⟩
  | forceEast | forceWest | manualEast | manualWest =>
    exact ⟨_, rfl, announcement_receptionKept _ (updateCondition_receptionKept _ _) s⟩
  | park | clearPark => exact ⟨_, rfl, announcement_receptionKept _ (setPark_receptionKept _) s⟩
  | clearEast | clearWest => exact ⟨_, rfl, announcement_receptionKept _ (updateCondition_receptionKept _ _) s⟩
  | join =>
    exact ⟨_, rfl, command_receptionKept _ (fun u yes => joinEffect_receptionKept ((joinAccepted_iff u).1 yes).mode) s⟩
  | leave => exact ⟨_, rfl, command_receptionKept _ (fun u _ => leaveEffect_receptionKept u) s⟩
  | noticeSendAttempt =>
    refine ⟨_, rfl, .guarded fun _ => ReceptionKept.event ?_⟩
    unfold sendAttempt
    split <;> exact .of_elsewhere rfl
  | unknownOperation | unknownCommand => exact ⟨_, rfl, turn_receptionKept _ (checked_reception unknown_reception) s⟩

/-- A reset above reset leaves every block in its reset state, and one that is not taken is an answer or nothing. -/
theorem exec_reset_receptionSound {c : Instr} (resets : c.resets) (high : s.resetN = true) (sound : ReceptionSound s) :
    ∃ t, exec c s = .next t ∧ ReceptionSound t := by
  rcases resets with rfl | ⟨straps, rfl | rfl⟩
  · refine ⟨_, rfl, ?_⟩
    rw [if_pos high]
    exact resetBlocks_receptionSound rfl s false
  · refine ⟨_, rfl, ?_⟩
    rw [if_pos high]
    exact sound
  · refine ⟨_, rfl, ?_⟩
    split
    next q c _ =>
      split
      · split
        · exact resetBlocks_receptionSound rfl s s.resetN
        · have answered := (takeRequest_receptionKept q s).trans (respond_receptionKept q c .check [] _)
          exact (answered.event (f := fun s => respond q c .check [] (takeRequest q s))).sound sound high
      · exact sound
    next => exact sound

theorem exec_receptionSound (c : Instr) (sound : ReceptionSound s) : ∃ t, exec c s = .next t ∧ ReceptionSound t := by
  cases high : s.resetN with
  | false => exact exec_receptionSound_low c sound high
  | true =>
    by_cases resets : c.resets
    · exact exec_reset_receptionSound resets high sound
    · obtain ⟨t, ran, kept⟩ := exec_receptionKept c resets high fun x => ⟨sound.line x, sound.monitor x⟩
      exact ⟨t, ran, kept.sound sound high⟩

/-- The queue of waiting commands is nothing that reception rests on. -/
theorem setPending_receptionSound (sound : ReceptionSound s) (rest : List Instr) : ReceptionSound (s.setPending rest) := by
  refine ⟨fun low => ?_, fun x => ?_, fun x => ?_⟩
  · obtain ⟨alone, reset⟩ := sound.reset low
    refine ⟨alone, ?_⟩
    conv_lhs => rw [reset]
    rfl
  · exact ((SideSound.mk (sound.line x) (sound.monitor x)).congr (t := s.setPending rest) rfl).line
  · exact ((SideSound.mk (sound.line x) (sound.monitor x)).congr (t := s.setPending rest) rfl).monitor

end

/-- Settles O4: above reset each command keeps each side sound, and while RESET_N is low every block stays in its reset state. -/
theorem stepKeepsReceptionSound : Obligations.StepKeepsReceptionSound := by
  intro s t sound stepped
  unfold step at stepped
  split at stepped
  · cases stepped
    exact sound
  next c rest _ =>
    obtain ⟨u, ran, kept⟩ := exec_receptionSound c (setPending_receptionSound sound rest)
    cases ran.symm.trans stepped
    exact kept

end Sys2Proof.Machine

/-! PROOFS. The hold-off's expiry (O29) and the receiver transitions that lose no frame (O21). -/

namespace Sys2Proof.Machine

section
variable {s t : State} {x : Side} {f : State → State}

/-! ### The hold-off's expiry (R26, R27, R87) -/

/-- A hold-off whose timer has not run out, or is stopped, is taken for nothing. -/
theorem exec_holdOffExpiry_idle (h : (s.monitor.get x).holdOffTimer ≠ some 0) :
    exec (.holdOffExpiry x) s = .next s := by
  have idle : timerDue (s.monitor.get x).holdOffTimer = false := eq_false_of_ne_true (mt (timerDue_iff _).1 h)
  show Host.Outcome.next (takeHoldOffExpiry x s) = _
  simp [takeHoldOffExpiry, idle]

theorem exec_holdOffExpiry_due (high : s.resetN = true) (holding : (s.monitor.get x).holdOff = .holding)
    (h : (s.monitor.get x).holdOffTimer = some 0) :
    exec (.holdOffExpiry x) s = .next (event (holdOffExpires x) s) := by
  have due : timerDue (s.monitor.get x).holdOffTimer = true := (timerDue_iff _).2 h
  show Host.Outcome.next (takeHoldOffExpiry x s) = _
  simp [takeHoldOffExpiry, due, high, holding]

/-- Besides the side's Span Monitor, the expiry moves what a report's chain can. -/
theorem holdOffExpires_frame (x : Side) (s : State) :
    RestorationFrame
      { s with monitor := s.monitor.set x { s.monitor.get x with holdOff := .standing, holdOffTimer := none } }
      (holdOffExpires x s) := takeReport_frame x _ _

/-- The standing defect makes the side CUT, and no other detected condition moves (R27, R87). -/
theorem holdOffExpires_detection (x : Side) (s : State) :
    ((holdOffExpires x s).condition.get x).detection =
        (.cut, if (s.condition.get x).detected = .cut then (s.condition.get x).wtr else none) ∧
      ((holdOffExpires x s).condition.get x.other).detection = (s.condition.get x.other).detection ∧
      ManualFollows s (holdOffExpires x s) := by
  obtain ⟨moved, other, manual⟩ := takeReport_detection x
    (s.updateMonitor x fun m => { m with holdOff := .standing, holdOffTimer := none }) .standingDefect
  exact ⟨moved.trans (Report.moves_standingDefect _ _ _), other, manual⟩

/-- Settles O29: the expiry is one event, a change of the Span Monitor and the standing defect's report. -/
theorem holdOffExpiryMakesCut : Obligations.HoldOffExpiryMakesCut := by
  intro s x high events _ sound
  refine ⟨fun holding due => ⟨_, exec_holdOffExpiry_due high holding due, ?_⟩, exec_holdOffExpiry_idle⟩
  have frame := holdOffExpires_frame x s
  have spanFrame : SpanFrame s (holdOffExpires x s) := by
    unfold SpanFrame
    rw [frame]
  obtain ⟨moved, other, manual⟩ := holdOffExpires_detection x s
  obtain ⟨-, -, -, monitor, condition⟩ := event_lines (holdOffExpires x) s
  have stopped : (if (s.condition.get x).detected = .cut then (s.condition.get x).wtr else none) = none := by
    split
    next cut =>
      have still := mt sound.wtr.1
      rw [cut] at still
      simpa using still
    next => rfl
  rw [stopped] at moved
  rw [monitor, condition]
  refine ⟨by rw [frame], congrArg Prod.fst moved, congrArg Prod.snd moved, congrArg Prod.fst other,
    congrArg Prod.snd other, spanFrame.event_reported manual events, ?_⟩
  conv_lhs => rw [event_frame, frame]
  rw [event_frame, frame]

/-! ### A receiver that loses no frame (R7 to R9) -/

/-- An event that moves a receiver alone is over when its work is done. -/
theorem event_receiver (sound : EventsSound s) {r : Sides Receiver} (work : f s = { s with receiver := r }) :
    event f s = { s with receiver := r } := by
  have quiet := event_quiet (f := f) (s := s)
    (by rw [work]; exact (liveValues_congr rfl rfl rfl rfl rfl rfl rfl rfl).trans sound.held.symm)
    (by rw [work]; exact sound.pulses) (by rw [work])
  rw [quiet, work]
  dsimp only
  rw [sound.level]

theorem exec_alignmentWordFound (sound : EventsSound s) (high : s.resetN = true) (heard : s.losPin.get x = false)
    (search : (s.receiver.get x).align = .search) :
    exec (.alignmentWordFound x) s =
      .next { s with receiver := s.receiver.set x { s.receiver.get x with align := .presync } } := by
  show Host.Outcome.next (if receiving s x .search then _ else s) = _
  rw [if_pos ((receiving_iff s x _).2 ⟨high, heard, search⟩), event_receiver sound rfl]
  rfl

/-- A word in PRESYNC is one event (R8). -/
theorem exec_presyncWord (high : s.resetN = true) (heard : s.losPin.get x = false)
    (presync : (s.receiver.get x).align = .presync) (w : Word) :
    exec (.presyncWordCheck x w) s = .next (event (fun s =>
      if goodWord w then enterAligned x s else s.updateReceiver x fun r => { r with align := .search }) s) := by
  show Host.Outcome.next (if receiving s x .presync then _ else s) = _
  rw [if_pos ((receiving_iff s x _).2 ⟨high, heard, presync⟩)]

theorem exec_presyncWord_bad (sound : EventsSound s) (high : s.resetN = true) (heard : s.losPin.get x = false)
    (presync : (s.receiver.get x).align = .presync) (w : Word) (bad : w ≠ 0x1E7B4D92#32) :
    exec (.presyncWordCheck x w) s =
      .next { s with receiver := s.receiver.set x { s.receiver.get x with align := .search } } := by
  rw [exec_presyncWord high heard presync]
  exact congrArg _ (event_receiver sound (if_neg (mt (goodWord_iff w).1 bad)))

/-- A word in ALIGNED is one event (R9). -/
theorem exec_alignedWord (high : s.resetN = true) (heard : s.losPin.get x = false)
    (aligned : (s.receiver.get x).align = .aligned) (w : Word) :
    exec (.alignedWordCheck x w) s = .next (event (alignedWord x w) s) := by
  show Host.Outcome.next (if receiving s x .aligned then _ else s) = _
  rw [if_pos ((receiving_iff s x _).2 ⟨high, heard, aligned⟩)]

theorem alignedWord_good {w : Word} (good : w = 0x1E7B4D92#32) (x : Side) (s : State) :
    alignedWord x w s = { s with receiver := s.receiver.set x { s.receiver.get x with badWords := 0 } } :=
  if_pos ((goodWord_iff w).2 good)

theorem alignedWord_bad {w : Word} (bad : w ≠ 0x1E7B4D92#32) (few : (s.receiver.get x).badWords < 3) :
    alignedWord x w s = { s with
      receiver := s.receiver.set x { s.receiver.get x with badWords := (s.receiver.get x).badWords + 1 } } := by
  unfold alignedWord
  rw [if_neg (mt (goodWord_iff w).1 bad), if_pos (show (s.receiver.get x).badWords + 1 < Config.badWordLimit from Nat.succ_lt_succ few)]
  rfl

/-! ### LOS goes low (R10, R20) -/

/-- LOF stays present on a side that has lost its signal, and so the flag stays and nothing is reported. -/
theorem losFalls_eq (line : LineSound s x) (sound : MonitorSound s x) (asserted : s.losPin.get x = true) :
    losFalls x s = { s with
      losPin := s.losPin.set x false
      monitor := s.monitor.set x
        { s.monitor.get x with defects := { (s.monitor.get x).defects with los := false } } } := by
  have lof : (s.monitor.get x).defects.lof = true := sound.lof.2 (by rw [line.search asserted]; nofun)
  have flag : (s.monitor.get x).flag = true := by
    rw [sound.flag]
    simp [Defects.present, lof]
  have formed : ((s.monitor.get x).withLos false).formFlag s.joined s.profile.holdOffTime =
      ((s.monitor.get x).withLos false, []) := by
    have present : ((s.monitor.get x).withLos false).defects.present = true := by
      simp [Defects.present, Monitor.withLos, lof]
    have still : ((s.monitor.get x).withLos false).flag = true := flag
    unfold Monitor.formFlag
    rw [present, still]
    dsimp only
    rw [← still]
  unfold losFalls closeMonitor
  simp only [State.updateMonitor, State.setMonitor_monitor, State.setLosPin_monitor, Sides.get_update_self]
  rw [show ((s.setLosPin (s.losPin.set x false)).setMonitor (s.monitor.update x (·.withLos false))).joined = s.joined from rfl,
    show ((s.setLosPin (s.losPin.set x false)).setMonitor (s.monitor.update x (·.withLos false))).profile = s.profile
      from rfl, formed]
  cases x <;> rfl

/-- Settles O21: nothing that the Event Unit watches moves but LOS at the pin's release. -/
theorem receiverTransitions : Obligations.ReceiverTransitions := by
  intro s x w high sound
  refine ⟨exec_alignmentWordFound sound high, fun heard presync => exec_presyncWord_bad sound high heard presync w, fun heard aligned good => ?_,
    fun heard aligned bad few => ?_, fun asserted line monitor => ?_⟩
  · rw [exec_alignedWord high heard aligned, event_receiver sound (alignedWord_good good x s)]
  · rw [exec_alignedWord high heard aligned, event_receiver sound (alignedWord_bad bad few)]
  · have ran : exec (.losRelease x) s = .next (event (losFalls x) s) := by
      show Host.Outcome.next (if !s.losPin.get x then s else if s.resetN then _ else _) = _
      rw [asserted, high]
      rfl
    have work := losFalls_eq line monitor asserted
    have frame := event_frame_of_own (f := losFalls x) (s := s) (by rw [work])
    have reported := event_reported (losFalls x) s (by rw [work]) (by rw [work]) (by rw [work]; exact ⟨rfl, rfl, rfl, rfl⟩)
      (by rw [work]) (by rw [work])
    have quiet : (losFalls x s).events.pulses = 0#32 := by
      rw [work]
      exact sound.pulses
    have transmit : (losFalls x s).transmit = s.transmit := by rw [work]
    rw [quiet, transmit] at reported
    refine ⟨_, ran, ?_, reported, ?_⟩
    · rw [frame, work]
    · conv_lhs => rw [frame, work]
      rw [frame, work]

end

end Sys2Proof.Machine

/-! PROOFS. A lost signal (O19) and the entry to ALIGNED (O22). -/

namespace Sys2Proof.Machine

section
variable {s t : State} {x : Side} {f : State → State}

/-! ### A lost signal as one event (R9, R10, R20, R21, R26, R27, R87) -/

/-- A departure from ALIGNED is counted, and nothing else (R9, R10, R21). -/
theorem State.count_lost (s : State) (x : Side) (pins : Sides Bool) (defects : Defects) (c : Counter) :
    (s.lost x pins defects).count c =
      if c = .alignmentLosses x ∧ (s.receiver.get x).align = .aligned then advanced (s.count c) 1 else s.count c := by
  have counted : (s.lost x pins defects).count c =
      (if (s.receiver.get x).align = .aligned then s.bump (.alignmentLosses x) 1 else s).count c := by
    unfold State.lost State.count
    split <;> rfl
  rw [counted]
  split
  next aligned =>
    rw [State.count_bump]
    by_cases same : c = .alignmentLosses x <;> simp [same, aligned]
  next away => rw [if_neg fun h => away h.2]

/-- A Span Monitor event that leaves the flag, the hold-off and its timer to the event's end. -/
theorem Monitor.formFlag_eq {m : Monitor} (sound : MonitorSound s x) (flag : m.flag = (s.monitor.get x).flag)
    (holdOff : m.holdOff = (s.monitor.get x).holdOff) (timer : m.holdOffTimer = (s.monitor.get x).holdOffTimer) :
    (m.formFlag s.joined s.profile.holdOffTime).1 =
      { m with
        flag := m.defects.present, holdOff := (holdOffAfter s x m.defects.present).1
        holdOffTimer := (holdOffAfter s x m.defects.present).2 } := by
  rw [Monitor.formFlag_frame, ← Monitor.formFlag_holdOff sound flag holdOff timer]

/-- The Span Monitor of a side that has lost its signal. -/
theorem lost_monitor (sound : MonitorSound s x) (pins : Sides Bool) {defects : Defects} (lof : defects.lof = true) :
    (closeMonitor x [] (s.lost x pins defects)).monitor = s.monitor.set x
      { s.monitor.get x with
        defects := defects, flag := true, settle := none, holdOff := (holdOffAfter s x true).1
        holdOffTimer := (holdOffAfter s x true).2 } := by
  have present : defects.present = true := by simp [Defects.present, lof]
  have formed := Monitor.formFlag_eq (m := { s.monitor.get x with defects := defects, settle := none }) sound rfl rfl rfl
  dsimp only at formed
  rw [present] at formed
  have before : (s.lost x pins defects).monitor = s.monitor.set x { s.monitor.get x with defects := defects, settle := none } :=
    rfl
  rw [closeMonitor_monitor, before, Sides.get_set_self, Sides.set_set]
  exact congrArg _ formed

/-- The detected condition of a side that has lost its signal follows its flag; its quality stands (R26, R87). -/
theorem lost_detectionFollows (sound : MonitorSound s x) (pins : Sides Bool) {defects : Defects}
    (excessive : defects.excessive = (s.monitor.get x).defects.excessive) :
    DetectionFollows s (closeMonitor x [] (s.lost x pins defects)) x := by
  have now : (s.lost x pins defects).monitor.get x = { s.monitor.get x with defects := defects, settle := none } :=
    Sides.get_set_self _ _ _
  have follows := closeMonitor_detectionFollows (s := s) (u := s.lost x pins defects) (x := x) rfl rfl rfl (by rw [now])
    (by
      rw [now, Bool.eq_iff_iff, beq_iff_eq]
      exact (iff_of_eq (congrArg (· = true) excessive)).trans sound.excessive)
  rwa [now, qualityReports_self] at follows

/-- The event that loses side x's signal, whichever way it is lost. -/
theorem signalLost_event {pins : Sides Bool} {defects : Defects}
    (work : f s = closeMonitor x [] (s.lost x pins defects)) (sound : MonitorSound s x) (events : EventsSound s)
    (lof : defects.lof = true) (excessive : defects.excessive = (s.monitor.get x).defects.excessive) :
    let t := event f s
    t.losPin = pins ∧ SignalLost s t x ∧ (t.monitor.get x).defects = defects ∧
      Reported s.events (commandDropped [.east, .west] s t) s.transmit t ∧ t = { s with
        losPin := t.losPin, receiver := t.receiver, buffer := t.buffer, monitor := t.monitor, condition := t.condition,
        signalling := { s.signalling with own := t.signalling.own }, resolver := t.resolver, engine := t.engine,
        counters := t.counters, transmit := t.transmit, events := t.events, alertN := t.alertN } := by
  have frame := closeMonitor_frame x [] (s.lost x pins defects)
  have manual := closeMonitor_after (s := s) (t := s.lost x pins defects) x [] rfl rfl
  have detected := lost_detectionFollows sound pins excessive
  have spanFrame := closeMonitor_spanFrame x [] (show SpanFrame s (s.lost x pins defects) from rfl)
  have after := lost_monitor sound pins lof
  rw [← work] at frame manual detected after spanFrame
  obtain ⟨pin, receiver, buffer, monitor, condition⟩ := event_lines f s
  have now := congrArg (Sides.get · x) (monitor.trans after)
  have other := congrArg (Sides.get · x.other) (monitor.trans after)
  simp only [Sides.get_set_self, Sides.get_set_other] at now other
  have counted (c : Counter) : (event f s).count c = (s.lost x pins defects).count c := by
    rw [event_count, State.count, frame]
    rfl
  refine ⟨by rw [pin, frame]; rfl, ⟨by rw [receiver, frame]; rfl, by rw [buffer, frame]; rfl, ?_, ?_, ?_, ?_, other,
    detected.congr monitor condition, fun c => (counted c).trans (s.count_lost x pins defects c)⟩, ?_,
    spanFrame.event_reported manual events, spanFrame.event_frame⟩
  all_goals rw [now]
  exact ⟨rfl, rfl, rfl⟩

/-- Settles O19: however the signal is lost, the receiver's departure and the end of the Span Monitor's event are one event. -/
theorem lostSignalIsTaken : Obligations.LostSignalIsTaken := by
  intro s x high events clear sound
  refine ⟨fun line => ?_, fun w aligned bad third => ?_⟩
  · have ran : exec (.losAssert x) s = .next (event (losRises x) s) := by
      show Host.Outcome.next (if s.losPin.get x then s else if s.resetN then _ else _) = _
      rw [clear, high]
      rfl
    obtain ⟨pin, lost, defects, rest⟩ := signalLost_event (SideSound.losRises_eq ⟨line, sound⟩) sound events rfl rfl
    exact ⟨_, ran, pin, lost, defects, rest⟩
  · have work : alignedWord x w s = closeMonitor x [] (s.lost x s.losPin { (s.monitor.get x).defects with lof := true }) := by
      unfold alignedWord
      rw [if_neg (mt (goodWord_iff w).1 bad), if_neg (by rw [third]; decide), depart_eq aligned]
    obtain ⟨pin, lost, defects, rest⟩ := signalLost_event work sound events rfl rfl
    exact ⟨_, exec_alignedWord high clear aligned w, pin, lost, defects, rest⟩

end

end Sys2Proof.Machine

/-! PROOFS. A good word in PRESYNC enters ALIGNED (O22). -/

namespace Sys2Proof.Machine

section
variable {s t : State} {x : Side} {f : State → State}

/-! ### The reports of an entry to ALIGNED (R27, R39, R88, R89) -/

/-- The current quality is read at a defect clear alone (R88). -/
theorem Report.moves_qualityChange (quality before after : Quality) (timer : Timer) (d : Detected × Timer) :
    (qualityReports before after).foldl (Report.moves quality timer) d =
      (qualityReports before after).foldl (Report.moves after timer) d := by
  unfold qualityReports
  split
  · rfl
  · cases after <;> rfl

/-- An entry to ALIGNED hands a defect clear where the flag falls, then the return to GOOD, then what d makes of GOOD. -/
theorem Report.moves_entry {after : Quality} {falls : Bool} (bounded : falls = true → after ≠ .excessive)
    {d : Detected × Timer} (untimed : d.1 ≠ .hold → d.2 = none) (before : Quality) (timer : Timer) :
    ((if falls then [Report.defectClear] else []) ++
        (qualityReports before .good ++ qualityReports .good after)).foldl (Report.moves after timer) d =
      if after = .fading ∧ (falls = true ∨ d.1 ≠ .cut) then (.fade, none)
      else if (falls = true ∧ d.1 = .cut) ∨ (before ≠ .good ∧ d.1 = .fade) then (.hold, timer)
      else d := by
  rw [List.foldl_append, List.foldl_append, Report.moves_qualityReports, Report.moves_qualityChange,
    Report.moves_qualityReports]
  obtain ⟨detected, wtr⟩ := d
  cases falls with
  | false =>
    simp only [Bool.false_eq_true, ↓reduceIte, List.foldl_nil, false_or, false_and]
    by_cases was : before = .good
    · cases after <;> cases detected <;> simp_all
    · cases after <;> cases detected <;> simp [was, Ne.symm was]
  | true =>
    simp only [↓reduceIte, List.foldl_cons, List.foldl_nil, Report.moves_defectClear (bounded rfl)]
    by_cases was : before = .good
    · cases after <;> cases detected <;> simp_all
    · cases after <;> cases detected <;> simp_all [Ne.symm was]

/-! ### The entry as one event (R8, R14, R39, R41; log 8) -/

/-- Quality after an entry to ALIGNED: GOOD, or what d = 0 makes of it where no settle mask runs (R39, R41; log 8). -/
def Profile.enteredQuality (p : Profile) (x : Side) : Quality :=
  if p.settleTime = 0 then evaluateQuality (p.tOn.get x) (p.tOff.get x) (p.tFail.get x) .good 0 else .good

/-- The defects after an entry to ALIGNED. -/
def State.enteredDefects (s : State) (x : Side) : Defects :=
  { (s.monitor.get x).defects with lof := false, excessive := s.profile.enteredQuality x == .excessive }

/-- The Span Monitor of a side that has entered ALIGNED. -/
theorem enterAligned_monitor (sound : MonitorSound s x) :
    (enterAligned x s).monitor = s.monitor.set x
      { s.monitor.get x with
        defects := s.enteredDefects x, flag := (s.enteredDefects x).present, density := 0
        quality := s.profile.enteredQuality x
        settle := if s.profile.settleTime = 0 then none else some (100 * s.profile.settleTime)
        holdOff := (holdOffAfter s x (s.enteredDefects x).present).1
        holdOffTimer := (holdOffAfter s x (s.enteredDefects x).present).2 } := by
  have formed := Monitor.formFlag_eq (m := (s.monitor.get x).entered s.profile x) sound (by rw [Monitor.entered_eq])
    (by rw [Monitor.entered_eq]) (by rw [Monitor.entered_eq])
  have before : (s.entering x).monitor = s.monitor.set x ((s.monitor.get x).entered s.profile x) := rfl
  rw [enterAligned_eq, closeMonitor_monitor, before, Sides.get_set_self, Sides.set_set]
  refine congrArg _ (Eq.trans formed ?_)
  rw [Monitor.entered_eq]
  rfl

/-- The detected conditions after an entry to ALIGNED: LOF was present, so that the flag can but fall (R27, R88, R89). -/
theorem enterAligned_detection (sound : MonitorSound s x) (condition : ConditionSound s x)
    (presync : (s.receiver.get x).align = .presync) :
    ((enterAligned x s).condition.get x).detection =
        (if s.profile.enteredQuality x = .fading ∧
            ((s.enteredDefects x).present = false ∨ (s.condition.get x).detected ≠ .cut) then (.fade, none)
        else if ((s.enteredDefects x).present = false ∧ (s.condition.get x).detected = .cut) ∨
            ((s.monitor.get x).quality ≠ .good ∧ (s.condition.get x).detected = .fade) then
          (.hold, some (10000 * s.profile.wtrTime))
        else (s.condition.get x).detection) ∧
      ((enterAligned x s).condition.get x.other).detection = (s.condition.get x.other).detection := by
  have lof : (s.monitor.get x).defects.lof = true := sound.lof.2 (by rw [presync]; nofun)
  have flag : (s.monitor.get x).flag = true := by
    rw [sound.flag]
    simp [Defects.present, lof]
  have now : (s.entering x).monitor.get x = (s.monitor.get x).entered s.profile x := Sides.get_set_self _ _ _
  have entered := Monitor.entered_eq (s.monitor.get x) s.profile x
  have quality : ((s.monitor.get x).entered s.profile x).quality = s.profile.enteredQuality x := by
    rw [entered]
    rfl
  have reports : (((s.monitor.get x).entered s.profile x).formFlag s.joined s.profile.holdOffTime).2 =
      if !(s.enteredDefects x).present then [.defectClear] else [] := by
    rw [Monitor.formFlag_reports, entered]
    dsimp only
    rw [flag]
    simp only [Bool.true_eq_false, false_and, and_false, ↓reduceIte, true_and, Bool.not_eq_true']
    rfl
  have bounded : (!(s.enteredDefects x).present) = true → s.profile.enteredQuality x ≠ .excessive := by
    intro clear excessive
    simp [Defects.present, State.enteredDefects, excessive] at clear
  have untimed : (s.condition.get x).detection.1 ≠ .hold → (s.condition.get x).detection.2 = none := by
    exact fun other => Option.not_isSome_iff_eq_none.1 (mt condition.wtr.1 other)
  rw [enterAligned_eq]
  unfold closeMonitor
  dsimp only
  rw [now, quality]
  obtain ⟨moved, other, -⟩ := takeReports_detection x
    ((((s.monitor.get x).entered s.profile x).formFlag (s.entering x).joined (s.entering x).profile.holdOffTime).2 ++
      (qualityReports (s.monitor.get x).quality .good ++ qualityReports .good (s.profile.enteredQuality x)))
    ((s.entering x).setMonitor ((s.entering x).monitor.set x
      (((s.monitor.get x).entered s.profile x).formFlag (s.entering x).joined (s.entering x).profile.holdOffTime).1))
  refine ⟨moved.trans ?_, other⟩
  rw [State.setMonitor_monitor, Sides.get_set_self, Monitor.formFlag_frame, show (s.entering x).joined = s.joined from rfl,
    show (s.entering x).profile = s.profile from rfl, reports]
  dsimp only
  rw [quality]
  refine (Report.moves_entry bounded untimed _ _).trans ?_
  simp only [Bool.not_eq_true']
  rfl

/-- Settles O22: the entry is one Span Monitor event, in which LOF leaves and the flag may fall. -/
theorem entryToAligned : Obligations.EntryToAligned := by
  intro s x w high events heard presync good sound condition
  have ran : exec (.presyncWordCheck x w) s = .next (event (enterAligned x) s) := by
    rw [exec_presyncWord high heard presync]
    exact congrArg _ (event_congr (if_pos ((goodWord_iff w).2 good)))
  have frame := closeMonitor_frame x (qualityReports (s.monitor.get x).quality .good ++
    qualityReports .good ((s.monitor.get x).entered s.profile x).quality) (s.entering x)
  have spanFrame := closeMonitor_spanFrame x (qualityReports (s.monitor.get x).quality .good ++
    qualityReports .good ((s.monitor.get x).entered s.profile x).quality) (show SpanFrame s (s.entering x) from rfl)
  have manual := closeMonitor_after (s := s) (t := s.entering x) x (qualityReports (s.monitor.get x).quality .good ++
    qualityReports .good ((s.monitor.get x).entered s.profile x).quality) rfl rfl
  rw [← enterAligned_eq] at frame spanFrame manual
  obtain ⟨moved, moved'⟩ := enterAligned_detection sound condition presync
  obtain ⟨pin, receiver, buffer, monitor, detected⟩ := event_lines (enterAligned x) s
  have now := congrArg (Sides.get · x) (monitor.trans (enterAligned_monitor sound))
  have other := congrArg (Sides.get · x.other) (monitor.trans (enterAligned_monitor sound))
  simp only [Sides.get_set_self, Sides.get_set_other] at now other
  refine ⟨_, ran, by rw [receiver, frame]; rfl, by rw [buffer, frame]; rfl, ?_, ?_, ?_, ?_, ?_, ?_, ?_, other, ?_, ?_, ?_,
    spanFrame.event_reported manual events, ?_⟩
  case refine_8 => rw [now, detected]; exact moved
  case refine_9 => rw [detected]; exact congrArg Prod.fst moved'
  case refine_10 => rw [detected]; exact congrArg Prod.snd moved'
  case refine_11 =>
    have pins : (event (enterAligned x) s).losPin = s.losPin := by rw [pin, frame]; rfl
    have counters : (event (enterAligned x) s).counters = s.counters := by rw [event_frame, frame]; rfl
    have whole := spanFrame.event_frame
    dsimp only at whole
    rwa [pins, counters] at whole
  all_goals rw [now]
  · rfl
  · rfl
  · exact Defects.present_iff _

end

end Sys2Proof.Machine

/-! PROOFS. A lost signal bridges in one event (O20). -/

namespace Sys2Proof.Machine

section
variable {s t : State} {x : Side} {p : Fin 32}

/-! ### A side that announces CUT or FORCE (R101, R102, R105, R106) -/

/-- A span that this node's side announces CUT or FORCE on is in R, where no learned entry has PARK (R101, R102). -/
theorem restored_of_own_classA (sound : RestorationSound s) (joined : s.joined = true)
    (position : s.identity.position = some p) (unparked : s.learnedPark = false)
    (announces : (s.signalling.own.get x).condition = .cut ∨ (s.signalling.own.get x).condition = .force) :
    s.resolver.restored.getLsbD (spanFaced s.ringMap.n p x) = true := by
  have size := ((complete_iff _).1 (sound.identity.complete joined)).1.2
  have below := (sound.identity.ring joined).2 p position
  have own : Condition.cut.code ≤ (s.entry p x).countedCondition.code := by
    rw [entry_own joined position]
    show _ ≤ (s.signalling.own.get x).condition.code
    rcases announces with cut | force
    · rw [cut]
    · rw [force]
      decide
  have faced : spanFaced s.ringMap.n p x < s.ringMap.n := by
    cases x
    · exact below
    · exact Nat.mod_lt _ (by omega)
  have east := countedCondition_le unparked (faced.trans_le size) .east
  have west := countedCondition_le unparked
    ((Nat.mod_lt (spanFaced s.ringMap.n p x + 1) (Nat.zero_lt_of_lt below)).trans_le size) .west
  have code : (s.spanCondition (spanFaced s.ringMap.n p x)).code = 4 ∨ (s.spanCondition (spanFaced s.ringMap.n p x)).code = 5 := by
    have cut : Condition.cut.code = 4 := rfl
    have force : Condition.force.code = 5 := rfl
    obtain ⟨atEast, atWest⟩ := spanFaced_end below
    rw [spanCondition_code]
    cases x with
    | east =>
      rw [atEast] at *
      omega
    | west =>
      rw [atWest] at *
      omega
  rw [resolver_joined sound joined position]
  refine (getLsbD_chooseRestored s ⟨_, faced.trans_le size⟩).2 ⟨faced, ?_⟩
  rw [if_neg (by rw [unparked]; nofun), if_pos ⟨_, faced, code⟩]
  exact code

/-- A node with a restored span at one of its sides does not carry normal traffic (R105). -/
theorem roleOf_ne_normal {n : Nat} {restored : Bits} (quiet : Bool) {p : Nat}
    (faced : restored.getLsbD (spanFaced n p x) = true) : roleOf n restored quiet p ≠ .normal := by
  unfold roleOf
  cases x with
  | east =>
    rw [faced]
    cases restored.getLsbD (spanFaced n p .west) <;> nofun
  | west =>
    rw [faced]
    cases restored.getLsbD (spanFaced n p .east) <;> nofun

/-- Where a span is in R, RESTORING is present (R107). -/
theorem restoring_of_getLsbD {k : Nat} (bit : s.resolver.restored.getLsbD k = true) : restoring s = true := by
  refine bne_iff_ne.2 fun none => ?_
  rw [none] at bit
  simp at bit

theorem getLsbD_liveValues_restoring (s : State) : (liveValues s).getLsbD 18 = restoring s :=
  getLsbD_liveValues s 18

/-! ### The path from a lost signal to the engine (R26, R87, R98, R102, R112) -/

/-- A side that is detected CUT announces CUT, or a FORCE that stands, where no PARK command does (R98). -/
theorem ConditionSound.announces_cut (sound : ConditionSound s x) (cut : (s.condition.get x).detected = .cut)
    (unparked : s.park = false) :
    (s.condition.get x).announced = .cut ∨ (s.condition.get x).announced = .force := by
  rw [sound.announced, unparked, ConditionSide.highest_false, cut]
  cases (s.condition.get x).command
  · exact .inl rfl
  · exact .inl rfl
  · exact .inr rfl

/-- Work on the lines, the conditions and the engines brings no learned PARK without a PARK command (R62, R94). -/
theorem unlearned_of_frame (unlearned : s.learnedPark = false) (sound : RestorationSound t) (unparked : t.park = false)
    (identity : t.identity = s.identity) (rct : t.signalling.rct = s.signalling.rct) : t.learnedPark = false :=
  eq_false_of_ne_true fun park => by
    refine absurd (anyLearned_of_own (s := s) (t := t) identity rct (fun y parked => ?_) park)
      (ne_true_of_eq_false unlearned)
    exact absurd (eq_of_beq parked) (own_ne_park sound unparked y)

end

/-- Settles O20: the signal is lost as O19 says, and what follows is what a sound part that announces CUT or FORCE shows. -/
theorem lossOfSignalRestores : Obligations.LossOfSignalRestores := by
  intro s x p sound high joined position clear unflagged instantly unlearned
  obtain ⟨t, ran, -, lost, -, reported, frame⟩ :=
    (lostSignalIsTaken s x high sound.events clear (sound.reception.monitor x)).1 (sound.reception.line x)
  have sound' : RestorationSound t := by
    obtain ⟨u, ran', kept⟩ := exec_sound (.losAssert x) s sound.restoration
    cases ran'.symm.trans ran
    exact kept
  have park : t.park = s.park := by rw [frame]
  have unparked := park.trans (park_of_unlearned sound.restoration joined unlearned)
  have unlearned' := unlearned_of_frame unlearned sound' unparked (by rw [frame]) (by rw [frame])
  have joined' : t.joined = true := by
    rw [State.joined, frame]
    exact joined
  have position' : t.identity.position = some p := by
    rw [frame]
    exact position
  have map : t.ringMap = s.ringMap := by rw [frame]
  have standing : (t.monitor.get x).holdOff = .standing := by
    have holdOff := congrArg Prod.fst lost.holdOff
    simpa [holdOffAfter, joined, unflagged, instantly] using holdOff
  have cut : (t.condition.get x).detected = .cut := by
    have detected := congrArg Prod.fst lost.detected.1
    simpa [State.detectedAfter, joined, unflagged, instantly, lost.flag] using detected
  have condition := sound'.condition x
  have announced := condition.announces_cut cut unparked
  have own := condition.ownCondition
  have restored := restored_of_own_classA sound' joined' position' unlearned' (x := x) (by rw [own]; exact announced)
  have target := (target_joined sound' joined' position' x).trans restored
  have role : t.resolver.role ≠ .normal := by
    have faced := restored
    rw [resolver_joined sound' joined' position'] at faced ⊢
    exact roleOf_ne_normal _ faced
  have held : t.events.held.getLsbD 18 = true := by
    rw [reported.observed.held, getLsbD_liveValues_restoring]
    exact restoring_of_getLsbD restored
  rw [map] at restored
  refine ⟨t, ran, standing, cut, ?_, announced, own, restored, target, (sound'.engine x).target.1 target,
    condition.ownAction, role, held⟩
  exact Option.not_isSome_iff_eq_none.1 (mt condition.wtr.1 (by rw [cut]; nofun))

end Sys2Proof.Machine

/-! PROOFS. An arriving frame is stored (O23). -/

namespace Sys2Proof.Machine

section
variable {s t u : State} {x : Side}

/-! ### What an arrival can touch before its cell is routed (R11) -/

/-- From s to t the receivers, the buffers, the Span Monitors, the counters and what hangs on reports and vectors move. -/
def ArrivalFrame (s t : State) : Prop :=
  t = { s with
    receiver := t.receiver, buffer := t.buffer, monitor := t.monitor, condition := t.condition, signalling := t.signalling
    resolver := t.resolver, engine := t.engine, counters := t.counters
    events := { s.events with pulses := t.events.pulses } }

theorem ArrivalFrame.trans (h : ArrivalFrame s t) (k : ArrivalFrame t u) : ArrivalFrame s u := by
  unfold ArrivalFrame at *
  rw [k, h]

theorem RestorationFrame.arrivalFrame (h : RestorationFrame s t) : ArrivalFrame s t := by
  unfold ArrivalFrame
  rw [h]

/-- From s to t the receivers and the buffers stand. -/
def LineStands (s t : State) : Prop :=
  t.receiver = s.receiver ∧ t.buffer = s.buffer

theorem LineStands.trans (h : LineStands s t) (k : LineStands t u) : LineStands s u :=
  ⟨k.1.trans h.1, k.2.trans h.2⟩

theorem RestorationFrame.lineStands (h : RestorationFrame s t) : LineStands s t := by
  unfold LineStands
  rw [h]
  exact ⟨rfl, rfl⟩

theorem arrivalStored_frame (x : Side) (f : LineFrame) (s : State) : ArrivalFrame s (arrivalStored x f s) := by
  unfold arrivalStored ArrivalFrame
  rw [bufferArrival_frame x f.slots s]
  rfl

theorem noteVector_arrivalFrame (s : State) (x : Side) (v : SigVector) :
    ArrivalFrame s (noteVector s x v) ∧ LineStands s (noteVector s x v) := by
  unfold ArrivalFrame LineStands
  rw [noteVector_frame]
  exact ⟨rfl, rfl, rfl⟩

theorem arrivalMerge_arrivalFrame (start : Sides OwnEntry) (x : Side) (v : SigVector) (qualifies : Bool) (s : State) :
    ArrivalFrame s (arrivalMerge start x v qualifies s) ∧ LineStands s (arrivalMerge start x v qualifies s) := by
  have merged (p : Nat) : ArrivalFrame s (mergeEntries start s x v p) ∧ LineStands s (mergeEntries start s x v p) := by
    unfold ArrivalFrame LineStands
    rw [mergeEntries_elsewhere]
    exact ⟨rfl, rfl, rfl⟩
  unfold arrivalMerge mergeVector
  split
  · split
    next p _ =>
      have noticed := tableNotice_frame (mergeEntries start s x v p.val)
      dsimp only
      split
      · exact ⟨(merged _).1.trans noticed.arrivalFrame, (merged _).2.trans noticed.lineStands⟩
      · exact merged _
    next => exact ⟨rfl, rfl, rfl⟩
  · exact ⟨rfl, rfl, rfl⟩

theorem monitorArrival_arrivalFrame (x : Side) (outcome : VectorOutcome) (parity : Option Nat) (s : State) :
    ArrivalFrame s (monitorArrival x outcome parity s) ∧ LineStands s (monitorArrival x outcome parity s) := by
  have taken (m : Sides Monitor) : ArrivalFrame s ((countedParity x s parity).setMonitor m) ∧
      LineStands s ((countedParity x s parity).setMonitor m) := by
    rw [countedParity_frame]
    exact ⟨rfl, rfl, rfl⟩
  have set (u : State) (m : Sides Monitor) : ArrivalFrame u (u.setMonitor m) ∧ LineStands u (u.setMonitor m) :=
    ⟨rfl, rfl, rfl⟩
  rw [monitorArrival_eq]
  have closed := closeMonitor_frame x
    (qualityReports (s.monitor.get x).quality ((s.monitor.get x).arrived s.profile x outcome parity).quality)
    ((countedParity x s parity).setMonitor (s.monitor.set x ((s.monitor.get x).arrived s.profile x outcome parity)))
  exact ⟨((taken _).1.trans (set _ _).1).trans closed.arrivalFrame,
    ((taken _).2.trans (set _ _).2).trans closed.lineStands⟩

/-- In either order the Span Monitor's event comes once, in a state that differs from that after the vector's noting at most by
the merge, as the state after it differs from the arrival's end (R11; log 7). -/
theorem arrivalWork_monitored {R : State → State → Prop} (x : Side) (f : LineFrame) (order : ArrivalOrder) (s : State)
    (refl : ∀ u, R u u)
    (merge : ∀ u, R u (arrivalMerge s.signalling.own x f.vector (mergeable s x f.vector) u)) :
    ∃ u, R (arrivalTaken x f s) u ∧
      R (monitorArrival x (vectorOutcome s x f.vector) (parityResult x f s) u) (arrivalWork x f order s) := by
  cases order with
  | mergeFirst => exact ⟨_, merge _, refl _⟩
  | monitorFirst => exact ⟨_, refl _, merge _⟩

/-- What an arrival can touch; the receivers and the buffers are as the frame's slots were stored. -/
theorem arrivalWork_arrivalFrame (x : Side) (f : LineFrame) (order : ArrivalOrder) (s : State) :
    ArrivalFrame s (arrivalWork x f order s) ∧ LineStands (arrivalStored x f s) (arrivalWork x f order s) := by
  obtain ⟨noted, still⟩ := noteVector_arrivalFrame (arrivalStored x f s) x f.vector
  obtain ⟨u, ⟨before, stands⟩, after, stands'⟩ :=
    arrivalWork_monitored (R := fun u v => ArrivalFrame u v ∧ LineStands u v) x f order s (fun _ => ⟨rfl, rfl, rfl⟩)
      (arrivalMerge_arrivalFrame _ x f.vector _)
  obtain ⟨monitored, stands''⟩ := monitorArrival_arrivalFrame x (vectorOutcome s x f.vector) (parityResult x f s) u
  exact ⟨((((arrivalStored_frame x f s).trans noted).trans before).trans monitored).trans after,
    ((still.trans stands).trans stands'').trans stands'⟩

/-! ### Counters (R17, R29, R76, R153) -/

/-- The buffer's part of an arrival counts its delete slip (R17). -/
theorem count_arrivalStored (x : Side) (f : LineFrame) (s : State) (k : Counter) :
    (arrivalStored x f s).count k =
      if k = .slips x ∧ s.deletes x = true then advanced (s.count k) 1 else s.count k := by
  have counted : (arrivalStored x f s).count k = (bufferArrival x f.slots s).count k := rfl
  rw [counted, bufferArrival_eq]
  split
  next deletes =>
    rw [slip_eq, State.count_raise, State.count_bump]
    by_cases same : k = .slips x
    · rw [if_pos same, if_pos ⟨same, deletes⟩, same]
      rfl
    · rw [if_neg same, if_neg fun h => same h.1]
      rfl
  next keeps =>
    rw [if_neg fun h => keeps h.2]
    rfl

/-- A vector that is not PASSED is counted (R68). -/
theorem count_noteVector (s : State) (x : Side) (v : SigVector) (k : Counter) :
    (noteVector s x v).count k =
      if k = .vectorsDiscarded x ∧ vectorOutcome s x v ≠ .passed then advanced (s.count k) 1 else s.count k := by
  unfold noteVector
  split
  next passed =>
    rw [if_neg fun h => h.2 passed]
    rfl
  next other =>
    rw [State.count_bump]
    by_cases same : k = .vectorsDiscarded x
    · rw [if_pos same, if_pos ⟨same, other⟩, same]
    · rw [if_neg same, if_neg fun h => same h.1]

/-- A merge counts the entries it ignores, and nothing else (R76). -/
theorem count_arrivalMerge (start : Sides OwnEntry) (x : Side) (v : SigVector) (qualifies : Bool) (s : State) {k : Counter}
    (other : k ≠ .entriesIgnored x) : (arrivalMerge start x v qualifies s).count k = s.count k := by
  have merged (p : Nat) : (mergeEntries start s x v p).count k = s.count k := by
    obtain ⟨rct, own, n, eq⟩ := mergeEntries_frame start s x v p
    rw [eq, State.count_bump, if_neg other]
    rfl
  have noticed (u : State) : (tableNotice u).count k = u.count k := by
    unfold State.count
    rw [tableNotice_frame u]
  unfold arrivalMerge mergeVector
  split
  · split
    · dsimp only
      split
      · rw [noticed, merged]
      · rw [merged]
    · rfl
  · rfl

/-- A parity result advances the two parity counters of its side, and no result advances none (R29). -/
theorem count_monitorArrival (x : Side) (outcome : VectorOutcome) (parity : Option Nat) (s : State) (k : Counter) :
    (monitorArrival x outcome parity s).count k =
      if k = .violations x then advanced (s.count k) (parity.getD 0)
      else if k = .erroredFrames x then advanced (s.count k) (if 1 ≤ parity.getD 0 then 1 else 0)
      else s.count k := by
  have closed : (monitorArrival x outcome parity s).count k = (countedParity x s parity).count k := by
    rw [monitorArrival_eq]
    unfold State.count
    rw [closeMonitor_frame]
    rfl
  rw [closed]
  cases parity with
  | none => simp [countedParity]
  | some v =>
    unfold countedParity countParity
    rw [State.count_bump, State.count_bump, State.count_bump]
    by_cases violations : k = .violations x
    · simp [violations]
    · by_cases errored : k = .erroredFrames x <;> simp [violations, errored]

/-- A line cell advances one of the Cell Router's counters, or none (R151, R153). -/
theorem lineRouted_counted (s : State) (x : Side) (m : Management) {k : Counter}
    (other : k ∉ [.cellsDiscarded x, .transitDrops, .requestOverflows]) : (s.lineRouted x m).counted ≠ some k := by
  simp only [List.mem_cons, List.not_mem_nil, or_false, not_or] at other
  obtain ⟨discarded, dropped, overflow⟩ := other
  unfold State.lineRouted State.requested State.queuedTo State.dropped State.unrouted
  dsimp only
  repeat' split
  all_goals simp [Ne.symm discarded, Ne.symm dropped, Ne.symm overflow]

/-- Each counter after an arrival, but for the ignored entries and the Cell Router's. -/
theorem count_frameArrival (x : Side) (f : LineFrame) (order : ArrivalOrder) (s : State) {k : Counter}
    (other : k ∉ [.entriesIgnored x, .cellsDiscarded x, .transitDrops, .requestOverflows]) :
    (event (frameArrival x f order) s).count k =
      let v := (parityResult x f s).getD 0
      if k = .violations x then advanced (s.count k) v
      else if k = .erroredFrames x then advanced (s.count k) (if 1 ≤ v then 1 else 0)
      else if k = .vectorsDiscarded x ∧ vectorOutcome s x f.vector ≠ .passed then advanced (s.count k) 1
      else if k = .slips x ∧ s.deletes x = true then advanced (s.count k) 1
      else s.count k := by
  obtain ⟨ignored, routed⟩ : k ≠ .entriesIgnored x ∧ k ∉ [.cellsDiscarded x, .transitDrops, .requestOverflows] :=
    not_or.1 (mt List.mem_cons.2 other)
  have outcome : vectorOutcome (arrivalStored x f s) x f.vector = vectorOutcome s x f.vector :=
    vectorOutcome_congr (by rw [arrivalStored_frame x f s]) (by rw [arrivalStored_frame x f s]) x f.vector
  have taken : (arrivalTaken x f s).count k = _ :=
    (count_noteVector (arrivalStored x f s) x f.vector k).trans (by rw [outcome, count_arrivalStored])
  obtain ⟨u, before, after⟩ := arrivalWork_monitored (R := fun u v => v.count k = u.count k) x f order s (fun _ => rfl)
    fun u => count_arrivalMerge _ x f.vector _ u ignored
  rw [event_count, frameArrival_routed, State.count_routedBy, if_neg (lineRouted_counted s x f.management routed), after,
    count_monitorArrival, before, taken]
  by_cases violations : k = .violations x
  · simp [violations]
  by_cases errored : k = .erroredFrames x
  · simp [errored]
  by_cases discarded : k = .vectorsDiscarded x
  · simp [discarded]
  · simp [violations, errored, discarded]

/-! ### The frame's slots (R14, R15, R17) -/

/-- An ALIGNED receiver's buffer is not FLUSHED, and stores the frame (R14, R15). -/
theorem bufferArrival_buffer (sound : LineSound s x) (aligned : (s.receiver.get x).align = .aligned) (f : LineSlots) :
    (bufferArrival x f s).buffer = s.buffer.set x ((s.buffer.get x).store f) := by
  have up : (s.buffer.get x).mode ≠ .flushed := fun flushed => sound.flushed.1 flushed aligned
  unfold bufferArrival
  dsimp only
  split
  next flushed => exact absurd flushed up
  next => rfl
  next => split <;> rfl

/-- A full RUNNING buffer makes the arrival a delete slip (R17). -/
theorem deletes_iff (sound : LineSound s x) :
    s.deletes x = true ↔ (s.buffer.get x).mode = .running ∧ (s.buffer.get x).frames.length = 4 := by
  unfold State.deletes
  rw [Bool.and_eq_true, beq_iff_eq, decide_eq_true_iff]
  exact and_congr_right fun _ => (Nat.le_antisymm_iff.trans (and_iff_right sound.capacity)).symm

end

/-- Settles O23: the slots are stored first, and nothing after them moves the buffers, the receivers or the slip counters. -/
theorem arrivingFrameIsStored : Obligations.ArrivingFrameIsStored := by
  intro s x f o high clear aligned sound
  obtain ⟨frame, receiver, buffer⟩ := arrivalWork_arrivalFrame x f o s
  have routed := frameArrival_routed x f o s
  have before : (bufferArrival x f.slots s).receiver = s.receiver := by rw [bufferArrival_frame x f.slots s]
  obtain ⟨-, receiver', buffer', -, -⟩ := event_lines (frameArrival x f o) s
  refine ⟨_, exec_alignedFrameArrival high clear aligned f o, ?_, ?_, fun y => ?_, ?_⟩
  · rw [receiver', routed]
    refine receiver.trans ?_
    have stored : (arrivalStored x f s).receiver =
        (bufferArrival x f.slots s).receiver.update x fun r => { r with heldParity := some (laneParity f.slots) } := rfl
    rw [stored, before]
    rfl
  · rw [buffer', routed]
    exact buffer.trans (bufferArrival_buffer sound aligned f.slots)
  · rw [count_frameArrival x f o s (by simp)]
    simp [deletes_iff sound]
  · conv_lhs => rw [event_frame, routed]
    unfold State.routedBy
    conv_lhs => rw [frame]
    rw [event_frame, routed]
    rfl

end Sys2Proof.Machine

/-! PROOFS. The Span Monitor's event of an arriving frame (O24). -/

namespace Sys2Proof.Machine

section
variable {s t u : State} {x : Side}

/-! ### What the rest of an arrival leaves of the Span Monitors and the detected conditions (R11; log 7) -/

/-- From s to t the Span Monitors, the Profile, the mode, the detected conditions and the WTR timers stand. -/
structure MonitorStands (s t : State) : Prop where
  monitor : t.monitor = s.monitor
  profile : t.profile = s.profile
  joined : t.joined = s.joined
  detection : ∀ y, (t.condition.get y).detection = (s.condition.get y).detection

theorem MonitorStands.refl (s : State) : MonitorStands s s := ⟨rfl, rfl, rfl, fun _ => rfl⟩

theorem MonitorStands.trans (h : MonitorStands s t) (k : MonitorStands t u) : MonitorStands s u :=
  ⟨k.monitor.trans h.monitor, k.profile.trans h.profile, k.joined.trans h.joined,
    fun y => (k.detection y).trans (h.detection y)⟩

/-- Work on none of them. -/
theorem MonitorStands.of_frame (frame : t = { t with
      monitor := s.monitor, profile := s.profile, identity := s.identity, condition := s.condition }) :
    MonitorStands s t := by
  constructor
  case detection =>
    intro y
    rw [frame]
  all_goals rw [frame]
  rfl

theorem tableNotice_monitorStands (s : State) : MonitorStands s (tableNotice s) := by
  have kept := tableNotice_detectionKept s
  have frame := tableNotice_frame s
  exact ⟨by rw [frame], by rw [frame], by rw [frame]; rfl, fun y => Prod.ext (kept.detected y) (kept.wtr y)⟩

theorem arrivalMerge_monitorStands (start : Sides OwnEntry) (x : Side) (v : SigVector) (qualifies : Bool) (s : State) :
    MonitorStands s (arrivalMerge start x v qualifies s) := by
  have merged (p : Nat) : MonitorStands s (mergeEntries start s x v p) := .of_frame (by rw [mergeEntries_elsewhere])
  unfold arrivalMerge mergeVector
  split
  · split
    · dsimp only
      split
      · exact (merged _).trans (tableNotice_monitorStands _)
      · exact merged _
    · exact .refl s
  · exact .refl s

theorem arrivalTaken_monitorStands (x : Side) (f : LineFrame) (s : State) : MonitorStands s (arrivalTaken x f s) := by
  have stored : MonitorStands s (bufferArrival x f.slots s) := .of_frame (by rw [bufferArrival_frame x f.slots s])
  have held (u : State) : MonitorStands u (u.updateReceiver x fun r => { r with heldParity := some (laneParity f.slots) }) :=
    .of_frame rfl
  have noted (u : State) : MonitorStands u (noteVector u x f.vector) := .of_frame (by rw [noteVector_frame])
  exact (stored.trans (held _)).trans (noted _)

/-- What an event's detected conditions follow is read of the Span Monitors, the Profile, the mode and the detection before. -/
theorem DetectionFollows.after_stands (h : DetectionFollows u t x) (stands : MonitorStands s u) : DetectionFollows s t x := by
  obtain ⟨monitor, profile, joined, detection⟩ := stands
  have detected (y : Side) : (u.condition.get y).detected = (s.condition.get y).detected := congrArg Prod.fst (detection y)
  have wtr (y : Side) : (u.condition.get y).wtr = (s.condition.get y).wtr := congrArg Prod.snd (detection y)
  simp only [DetectionFollows, State.detectedAfter, monitor, profile, joined, detected, wtr] at h ⊢
  exact h

theorem DetectionFollows.before_stands (h : DetectionFollows s t x) (stands : MonitorStands t u) : DetectionFollows s u x := by
  obtain ⟨monitor, -, -, detection⟩ := stands
  have detected (y : Side) : (u.condition.get y).detected = (t.condition.get y).detected := congrArg Prod.fst (detection y)
  have wtr (y : Side) : (u.condition.get y).wtr = (t.condition.get y).wtr := congrArg Prod.snd (detection y)
  simp only [DetectionFollows, State.detectedAfter, monitor, detected, wtr] at h ⊢
  exact h

/-! ### The Span Monitor's event (R22 to R27, R29, R30, R36, R87 to R90) -/

/-- The Span Monitors after a frame's event in a state that shows them as s does. -/
theorem monitorArrival_monitor (sound : MonitorSound s x) (stands : MonitorStands s u) (outcome : VectorOutcome)
    (parity : Option Nat) :
    let m := (s.monitor.get x).arrived s.profile x outcome parity
    (monitorArrival x outcome parity u).monitor = s.monitor.set x
      { m with
        flag := m.defects.present, holdOff := (holdOffAfter s x m.defects.present).1
        holdOffTimer := (holdOffAfter s x m.defects.present).2 } := by
  obtain ⟨monitor, profile, joined, -⟩ := stands
  have formed := Monitor.formFlag_eq (m := (s.monitor.get x).arrived s.profile x outcome parity) sound
    (by rw [sound.arrived_eq]) (by rw [sound.arrived_eq]) (by rw [sound.arrived_eq])
  dsimp only
  rw [monitorArrival_eq, closeMonitor_monitor, countedParity_frame]
  rw [show (State.setMonitor { u with counters := (countedParity x u parity).counters }
      (u.monitor.set x ((u.monitor.get x).arrived u.profile x outcome parity))).joined = u.joined from rfl]
  simp only [State.setMonitor_monitor, State.setMonitor_profile, Sides.get_set_self, Sides.set_set, monitor, profile, joined]
  exact congrArg _ formed

/-- The detected condition follows the flag and the quality that the frame leaves (R27, R45, R87 to R90). -/
theorem monitorArrival_detectionFollows (sound : MonitorSound s x) (stands : MonitorStands s u) (outcome : VectorOutcome)
    (parity : Option Nat) : DetectionFollows s (monitorArrival x outcome parity u) x := by
  refine DetectionFollows.after_stands ?_ stands
  obtain ⟨monitor, profile, -, -⟩ := stands
  have now : ((countedParity x u parity).setMonitor
      (u.monitor.set x ((u.monitor.get x).arrived u.profile x outcome parity))).monitor.get x =
        (s.monitor.get x).arrived s.profile x outcome parity := by
    rw [State.setMonitor_monitor, Sides.get_set_self, monitor, profile]
  have follows := closeMonitor_detectionFollows (s := u) (x := x)
    (u := (countedParity x u parity).setMonitor
      (u.monitor.set x ((u.monitor.get x).arrived u.profile x outcome parity)))
    (by rw [countedParity_frame]; rfl) (by rw [countedParity_frame]; rfl) (by rw [countedParity_frame]; rfl)
    (by rw [now, sound.arrived_eq, monitor]) (by rw [now, sound.arrived_eq])
  rw [now] at follows
  rw [monitorArrival_eq, monitor, profile]
  rw [monitor, profile] at follows
  exact follows

end

/-- Settles O24: the merge, before or after, leaves all that the Span Monitor's event reads and moves. -/
theorem arrivingFrameIsMonitored : Obligations.ArrivingFrameIsMonitored := by
  intro s x f o high clear aligned sound
  have taken := arrivalTaken_monitorStands x f s
  obtain ⟨u, before, after⟩ := arrivalWork_monitored x f o s MonitorStands.refl
    (arrivalMerge_monitorStands _ x f.vector _)
  have stands := taken.trans before
  have monitored := monitorArrival_monitor sound stands (vectorOutcome s x f.vector) (parityResult x f s)
  have follows := (monitorArrival_detectionFollows sound stands (vectorOutcome s x f.vector)
    (parityResult x f s)).before_stands after
  have arrived := sound.arrived_eq s.profile (vectorOutcome s x f.vector) (parityResult x f s)
  have routed := frameArrival_routed x f o s
  obtain ⟨-, -, -, monitor, condition⟩ := event_lines (frameArrival x f o) s
  have work : (event (frameArrival x f o) s).monitor = _ :=
    (monitor.trans (by rw [routed]; rfl)).trans (after.monitor.trans monitored)
  have now := congrArg (Sides.get · x) work
  have other := congrArg (Sides.get · x.other) work
  simp only [Sides.get_set_self, Sides.get_set_other] at now other
  have counted (k : Counter) := count_frameArrival x f o s (k := k)
  refine ⟨_, exec_alignedFrameArrival high clear aligned f o, ?_⟩
  dsimp only
  refine ⟨?_, ?_, ?_, ?_, ?_, ?_, ?_, follows.congr (monitor.trans (by rw [routed]; rfl))
    (condition.trans (by rw [routed]; rfl)), other, ?_, ?_, ?_, fun k rest => ?_⟩
  case refine_8 => exact (counted _ (by simp)).trans (if_pos rfl)
  case refine_9 => exact (counted _ (by simp)).trans ((if_neg nofun).trans (if_pos rfl))
  case refine_10 =>
    refine (counted _ (by simp)).trans ?_
    by_cases passed : vectorOutcome s x f.vector = .passed <;> simp [passed]
  case refine_11 =>
    simp only [List.mem_cons, List.not_mem_nil, or_false, not_or] at rest
    obtain ⟨violations, errored, discarded, slips, ignored, rest⟩ := rest
    refine (counted k (by simp [ignored, rest])).trans ?_
    simp [violations, errored, discarded, slips]
  all_goals rw [now]
  case refine_6 => exact Defects.present_iff _
  all_goals rw [arrived]
  all_goals rfl

end Sys2Proof.Machine

/-! PROOFS. The frames of a local frame start: what is sent (O11) and what the reads leave (O13). -/

namespace Sys2Proof.Machine

section
variable {s t : State} {x : Side}

/-! ### The frames as one event (R1, R5, R19; log 6) -/

/-- The issue of the local frame start where that has not been taken, and its frames. -/
def issuedFrames (s : State) : State := buildFrames s.issued

theorem exec_frames_event (high : s.resetN = true) (due : FrameStartDue s) :
    exec (.localFrameStart .frames) s = .next (event issuedFrames s) := by
  show Host.Outcome.next (if s.resetN then _ else _) = _
  rw [if_pos high, frameStart_frames due]
  exact congrArg _ (event_congr rfl)

/-- From s to t what the frames of a local frame start touch moves, and nothing else. -/
def FramesFrame (s t : State) : Prop :=
  t = { s with
    buffer := t.buffer, holder := t.holder, squelch := t.squelch, sent := t.sent, sentParity := t.sentParity
    instant := t.instant, transmit := t.transmit, counters := t.counters
    events := { s.events with pulses := t.events.pulses, attempts := t.events.attempts } }

theorem FramesFrame.trans {u : State} (h : FramesFrame s t) (k : FramesFrame t u) : FramesFrame s u := by
  unfold FramesFrame at *
  rw [k, h]

theorem removeCell_framesFrame (q : Port) (s : State) : FramesFrame s (removeCell q s) := by
  unfold FramesFrame
  rw [removeCell_frame]

theorem readBuffer_framesFrame (x : Side) (s : State) : FramesFrame s (readBuffer x s) := by
  unfold FramesFrame
  rw [readBuffer_frame]

/-- The state in which the cells leave: the buffers are read, and the three frames are begun. -/
def framesBegun (f : SentFrames) (s : State) : State :=
  beginFrames f (((readBuffer .west (readBuffer .east (s.setSquelch s.squelchTests))).setHolder none).setInstant
    ⟨false, s.instant.swapTurn && s.tables.commit.isSome⟩)

/-- The frames that are built, all from the state with its squelch results formed. -/
def framesBuilt (s : State) : SentFrames :=
  builtFrames (s.setSquelch s.squelchTests) (readInputs (s.setSquelch s.squelchTests))

theorem buildFrames_eq (s : State) :
    buildFrames s =
      removeCell .tributary (removeCell .west (removeCell .east (framesBegun (framesBuilt s) s))) := rfl

theorem framesBegun_framesFrame (f : SentFrames) (s : State) : FramesFrame s (framesBegun f s) := by
  have squelched : FramesFrame s (s.setSquelch s.squelchTests) := rfl
  have begun (u : State) (v : FrameInstant) : FramesFrame u (beginFrames f ((u.setHolder none).setInstant v)) := rfl
  exact ((squelched.trans (readBuffer_framesFrame .east _)).trans (readBuffer_framesFrame .west _)).trans (begun _ _)

theorem buildFrames_framesFrame (s : State) : FramesFrame s (buildFrames s) := by
  rw [buildFrames_eq]
  exact (((framesBegun_framesFrame _ s).trans (removeCell_framesFrame .east _)).trans
    (removeCell_framesFrame .west _)).trans (removeCell_framesFrame .tributary _)

/-- From s to t the transmit queues and the send attempts move. -/
def RemovalFrame (s t : State) : Prop :=
  t = { s with transmit := t.transmit, events := { s.events with attempts := t.events.attempts } }

theorem RemovalFrame.trans {u : State} (h : RemovalFrame s t) (k : RemovalFrame t u) : RemovalFrame s u := by
  unfold RemovalFrame at *
  rw [k, h]

/-- Besides the queues and the send attempts the frames leave what the reads and the frames begun leave. -/
theorem buildFrames_removalFrame (s : State) : RemovalFrame (framesBegun (framesBuilt s) s) (buildFrames s) := by
  have removed (q : Port) (u : State) : RemovalFrame u (removeCell q u) := removeCell_frame q u
  rw [buildFrames_eq]
  exact ((removed .east _).trans (removed .west _)).trans (removed .tributary _)

theorem framesBegun_instant (f : SentFrames) (s : State) :
    (framesBegun f s).holder = none ∧
      (framesBegun f s).instant = ⟨false, s.instant.swapTurn && s.tables.commit.isSome⟩ ∧
      (framesBegun f s).sentParity = ⟨laneParity f.east.slots, laneParity f.west.slots⟩ := ⟨rfl, rfl, rfl⟩

/-! ### The reads (R14 to R16, R19) -/

/-- A read counts its repeat slip (R16). -/
theorem count_readBuffer (x : Side) (s : State) (k : Counter) :
    (readBuffer x s).count k = if k = .slips x ∧ s.repeats x = true then advanced (s.count k) 1 else s.count k := by
  unfold readBuffer
  dsimp only
  rw [Buffer.read_repeats]
  split
  next slips =>
    rw [slip_eq, State.count_raise, State.count_bump]
    by_cases same : k = .slips x
    · rw [if_pos same, if_pos ⟨same, slips⟩, same]
      rfl
    · rw [if_neg same, if_neg fun h => same h.1]
      rfl
  next keeps =>
    rw [if_neg fun h => keeps h.2]
    rfl

/-- The read of one side leaves the other side's. -/
theorem readBuffer_repeats_west (s : State) : (readBuffer .east s).repeats .west = s.repeats .west := by
  unfold State.repeats
  rw [readBuffer_buffer]
  rfl

/-- What the two reads leave of the buffers and the counters. -/
theorem framesBegun_reads (f : SentFrames) (s : State) :
    (∀ x, (framesBegun f s).buffer.get x = (s.buffer.get x).read.2.1) ∧
      ∀ k, (framesBegun f s).count k =
        if (k = .slips .east ∧ s.repeats .east = true) ∨ (k = .slips .west ∧ s.repeats .west = true) then
          advanced (s.count k) 1
        else s.count k := by
  have begun (u : State) (v : FrameInstant) : (beginFrames f ((u.setHolder none).setInstant v)).buffer = u.buffer := rfl
  have counted (u : State) (v : FrameInstant) (k : Counter) :
      (beginFrames f ((u.setHolder none).setInstant v)).count k = u.count k := rfl
  have squelched (q : Squelch) (k : Counter) : (s.setSquelch q).count k = s.count k := rfl
  have repeats (q : Squelch) (x : Side) : (s.setSquelch q).repeats x = s.repeats x := rfl
  refine ⟨fun x => ?_, fun k => ?_⟩
  · rw [framesBegun, begun, readBuffer_buffer, readBuffer_buffer]
    cases x <;> rfl
  · rw [framesBegun, counted, count_readBuffer, count_readBuffer, readBuffer_repeats_west, squelched, repeats, repeats]
    by_cases east : k = .slips .east
    · simp [east]
    · simp [east]

/-! ### The frames of a local frame start that is issued (R5, R19) -/

/-- What the frames read of the state, the issue leaves. -/
theorem issuedFrames_removalFrame (s : State) :
    RemovalFrame (framesBegun (framesBuilt s.issued) s.issued) (issuedFrames s) := buildFrames_removalFrame s.issued

/-- The frames are those of the state framed. -/
theorem framesBuilt_issued (s : State) : framesBuilt s.issued = builtFrames s.framed (readInputs s) := by
  rw [framesBuilt, s.issued_squelchTests, ← s.framed_inputs]
  rfl

/-- Each held parity is that of the frame that is begun (R5; log 12). -/
theorem issuedFrames_sentParity (s : State) (x : Side) :
    (issuedFrames s).sentParity.get x = laneParity ((builtFrames s.framed (readInputs s)).line x).slots := by
  have begun : (issuedFrames s).sentParity = (framesBegun (framesBuilt s.issued) s.issued).sentParity := by
    rw [issuedFrames_removalFrame s]
  obtain ⟨-, -, parity⟩ := framesBegun_instant (framesBuilt s.issued) s.issued
  rw [begun, parity, framesBuilt_issued]
  cases x <;> rfl

theorem count_issuedFrames (s : State) (k : Counter) :
    (issuedFrames s).count k =
      if (k = .slips .east ∧ s.repeats .east = true) ∨ (k = .slips .west ∧ s.repeats .west = true) then
        advanced (s.count k) 1
      else s.count k := by
  have counted : (issuedFrames s).count k = (framesBegun (framesBuilt s.issued) s.issued).count k := by
    unfold State.count
    rw [issuedFrames_removalFrame s]
  have count : s.issued.count k = s.count k := by
    unfold State.count
    rw [s.issued_frame]
  have repeats (x : Side) : s.issued.repeats x = s.repeats x := by
    unfold State.repeats
    rw [s.issued_frame]
  rw [counted, (framesBegun_reads _ _).2, count, repeats, repeats]

theorem issuedFrames_buffer (s : State) (x : Side) : (issuedFrames s).buffer.get x = (s.buffer.get x).read.2.1 := by
  have read : (issuedFrames s).buffer = (framesBegun (framesBuilt s.issued) s.issued).buffer := by
    rw [issuedFrames_removalFrame s]
  have buffer : s.issued.buffer = s.buffer := by rw [s.issued_frame]
  rw [read, (framesBegun_reads _ _).1, buffer]

theorem issuedFrames_holder (s : State) : (issuedFrames s).holder = none := by
  have held : (issuedFrames s).holder = (framesBegun (framesBuilt s.issued) s.issued).holder := by
    rw [issuedFrames_removalFrame s]
  exact held.trans (framesBegun_instant _ _).1

end

/-- Settles O13: the reads move the buffers and count their repeat slips, and nothing else of a local frame start does. -/
theorem frameStartReadsBuffers : Obligations.FrameStartReadsBuffers := by
  intro s high due
  refine ⟨_, exec_frames_event high due, ?_, fun x => ?_, fun k => ?_⟩
  · rw [event_frame]
    exact issuedFrames_holder s
  · rw [(event_lines issuedFrames s).2.2.1, issuedFrames_buffer]
    generalize s.buffer.get x = b
    obtain ⟨mode, frames, last⟩ := b
    cases mode with
    | flushed => rfl
    | centering =>
      match frames with
      | [] | [_] | _ :: _ :: _ => rfl
    | running => cases frames <;> rfl
  · rw [event_count, count_issuedFrames]
    cases k with
    | slips y => cases y <;> simp
    | _ => simp

section
variable {s t : State} {x : Side} {f : State → State}

/-! ### What the transmitters send (R5, R65) -/

/-- The vector is built of the identity, the own and the remote entries, and the Ring Map (R65). -/
theorem buildVector_congr (identity : t.identity = s.identity) (signalling : t.signalling = s.signalling)
    (ringMap : t.ringMap = s.ringMap) : buildVector t = buildVector s := by
  unfold buildVector vectorEntry State.entry State.joined
  rw [identity, signalling, ringMap]

/-- The management field of a port is its oldest cell, or none (R5). -/
theorem managementOut_eq (s : State) (q : Port) : managementOut s q = (s.transmit.get q).offered := by
  unfold managementOut TransmitQueue.offered
  cases (s.transmit.get q).cells <;> rfl

/-- A line frame, part by part. -/
theorem builtFrames_line (s : State) (i : Inputs) (x : Side) :
    (builtFrames s i).line x =
      lineFrameOut s x (buildVector s) (managementOut s x.port) (lineOut s i x) := by
  cases x <;> rfl

/-! ### Send attempts (R171; log 16) -/

/-- While a notice is pending, each cell that leaves prompts one send attempt (R171). -/
theorem removeCell_attempts (q : Port) (pending : s.events.pending = true) :
    (removeCell q s).events.attempts =
      s.events.attempts + if (s.transmit.get q).cells ≠ [] then 1 else 0 := by
  unfold removeCell
  split
  next empty => simp [empty]
  next filled =>
    dsimp only
    rw [if_pos pending, filled]
    rfl

theorem buildFrames_attempts (pending : s.events.pending = true) :
    (buildFrames s).events.attempts = s.events.attempts +
      [s.transmit.east, s.transmit.west, s.transmit.tributary].countP fun q => decide (q.cells ≠ []) := by
  have begun := framesBegun_framesFrame (framesBuilt s) s
  have attempts : (framesBegun (framesBuilt s) s).events.attempts = s.events.attempts := by
    have read (x : Side) (u : State) : (readBuffer x u).events.attempts = u.events.attempts := by rw [readBuffer_frame]
    have last (u : State) (v : FrameInstant) : (beginFrames (framesBuilt s) ((u.setHolder none).setInstant v)).events =
        u.events := rfl
    rw [framesBegun, last, read, read]
    rfl
  have transmit : (framesBegun (framesBuilt s) s).transmit = s.transmit := by
    have read (x : Side) (u : State) : (readBuffer x u).transmit = u.transmit := by rw [readBuffer_frame]
    have last (u : State) (v : FrameInstant) : (beginFrames (framesBuilt s) ((u.setHolder none).setInstant v)).transmit =
        u.transmit := rfl
    rw [framesBegun, last, read, read]
    rfl
  have waits : (framesBegun (framesBuilt s) s).events.pending = true := by
    rw [begun]
    exact pending
  rw [buildFrames_eq]
  generalize framesBegun (framesBuilt s) s = u at *
  have still (q : Port) (v : State) : (removeCell q v).events.pending = v.events.pending := by rw [removeCell_frame]
  rw [removeCell_attempts .tributary (by rw [still, still]; exact waits), removeCell_attempts .west (by rw [still]; exact waits),
    removeCell_attempts .east waits, removeCell_transmit, removeCell_transmit, removeCell_transmit, attempts, transmit]
  simp only [List.countP_cons, List.countP_nil, decide_eq_true_eq, Nat.zero_add]
  show s.events.attempts + (if s.transmit.east.cells ≠ [] then 1 else 0) + (if s.transmit.west.cells ≠ [] then 1 else 0) +
    (if s.transmit.tributary.cells ≠ [] then 1 else 0) = _
  omega

/-- The end of an event spends no send attempt while the notice stays pending (R170, R171). -/
theorem event_attempts (pending : (f s).events.pending = true) :
    (event f s).events.attempts = (f s).events.attempts := by
  unfold event
  rw [observe_eq]
  have waits : (latched (advanceEditions s (f s))).events.pending = true := pending
  split
  · rfl
  · rw [promptNotice, if_pos waits]
    rfl

/-- The frames end as one event with the repeat slips as its pulse events (R16, R166 to R172). -/
theorem issuedFrames_reported (sound : EventsSound s) :
    Reported s.events (slipPulses (s.repeats .east) (s.repeats .west)) s.transmitSent (event issuedFrames s) := by
  obtain ⟨-, transmit, pulses⟩ := buildFrames_work s.issued
  have events : (issuedFrames s).events =
      { s.events with pulses := (issuedFrames s).events.pulses, attempts := (issuedFrames s).events.attempts } := by
    have built : (issuedFrames s).events = { s.issued.events with
        pulses := (issuedFrames s).events.pulses, attempts := (issuedFrames s).events.attempts } := by
      unfold issuedFrames
      rw [buildFrames_framesFrame s.issued]
    rw [built, s.issued_frame]
  have pulses' : (issuedFrames s).events.pulses = slipPulses (s.repeats .east) (s.repeats .west) := by
    refine pulses.trans ?_
    unfold State.repeats
    rw [s.issued_frame]
    dsimp only
    rw [sound.pulses, BitVec.zero_or]
  have transmit' : (issuedFrames s).transmit = s.transmitSent := by
    refine transmit.trans ?_
    unfold State.transmitSent
    rw [s.issued_frame]
  rw [← pulses', ← transmit']
  apply event_reported <;> rw [events]
  exact ⟨rfl, rfl, rfl, rfl⟩

end

/-- Settles O11: the frames are built from a state that holds the parities, the queues and the table as they stood. -/
theorem frameStartSendsFrames : Obligations.FrameStartSendsFrames := by
  intro s high due sound
  obtain ⟨t, ran, -, sent⟩ := exec_frames high due
  cases (exec_frames_event high due).symm.trans ran
  have parity : s.framed.sentParity = s.sentParity := by
    rw [State.framed, State.setSquelch_sentParity, s.issued_frame]
  have transmit : s.framed.transmit = s.transmit := by
    rw [State.framed, State.setSquelch_transmit, s.issued_frame]
  have vector : buildVector s.framed = buildVector s := by
    refine buildVector_congr ?_ ?_ ?_ <;> rw [State.framed]
    · rw [State.setSquelch_identity, s.issued_frame]
    · rw [State.setSquelch_signalling, s.issued_frame]
    · rw [State.setSquelch_ringMap, s.issued_frame]
  have begun : (event issuedFrames s).sentParity = (issuedFrames s).sentParity := by rw [event_frame]
  refine ⟨_, ran, ⟨_, sent, fun x => ?_, rfl, ?_⟩, issuedFrames_reported sound, fun pending => ?_⟩
  · refine ⟨?_, ?_, ?_, ?_, ?_⟩
    case refine_5 => rw [begun, issuedFrames_sentParity]
    all_goals rw [builtFrames_line]
    · rfl
    · rw [← parity]; rfl
    · rw [← vector]; rfl
    · rw [← transmit, ← managementOut_eq]; rfl
  · rw [← transmit]
    exact managementOut_eq s.framed .tributary
  · have events : s.issued.events = s.events := by rw [s.issued_frame]
    have queues : s.issued.transmit = s.transmit := by rw [s.issued_frame]
    have waits : (issuedFrames s).events.pending = true := by
      have built : (issuedFrames s).events.pending = s.issued.events.pending := by
        unfold issuedFrames
        rw [buildFrames_framesFrame s.issued]
      rw [built, events]
      exact pending
    have prompted := buildFrames_attempts (s := s.issued) (by rw [events]; exact pending)
    rw [events, queues] at prompted
    rw [event_attempts waits]
    exact prompted

end Sys2Proof.Machine

/-! PROOFS. The parity word (O17). -/

namespace Sys2Proof

/-! ### Exclusive-or of bits -/

/-- The exclusive-or of a run of bits. -/
def xorAll (bits : List Bool) : Bool := bits.foldl xor false

theorem foldl_xor (bits : List Bool) (b : Bool) : bits.foldl xor b = xor b (xorAll bits) := by
  unfold xorAll
  induction bits generalizing b with
  | nil => simp
  | cons c bits ih => rw [List.foldl_cons, List.foldl_cons, ih, ih (xor false c), Bool.false_xor, Bool.xor_assoc]

@[simp] theorem xorAll_nil : xorAll [] = false := rfl

@[simp] theorem xorAll_cons (b : Bool) (bits : List Bool) : xorAll (b :: bits) = xor b (xorAll bits) := by
  rw [xorAll, List.foldl_cons, foldl_xor, Bool.false_xor]

theorem xorAll_append (a b : List Bool) : xorAll (a ++ b) = xor (xorAll a) (xorAll b) := by
  rw [xorAll, List.foldl_append, foldl_xor]
  rfl

/-- The bits of runs, run by run. -/
theorem xorAll_flatMap {α : Type} (l : List α) (f : α → List Bool) :
    xorAll (l.flatMap f) = xorAll (l.map fun a => xorAll (f a)) := by
  induction l with
  | nil => rfl
  | cons a l ih => rw [List.flatMap_cons, xorAll_append, ih, List.map_cons, xorAll_cons]

theorem xorAll_map_xor {α : Type} (l : List α) (f g : α → Bool) :
    xorAll (l.map fun a => xor (f a) (g a)) = xor (xorAll (l.map f)) (xorAll (l.map g)) := by
  induction l with
  | nil => rfl
  | cons a l ih =>
    simp only [List.map_cons, xorAll_cons, ih]
    cases f a <;> cases g a <;> simp

/-! ### Lanes (R12) -/

/-- The bits of one lane in the last n groups of a payload, in transmission order. -/
def Payload.laneEnd (p : Payload) (j n : Nat) : List Bool :=
  (List.range n).map fun g => p.getMsbD (9728 - 32 * n + 32 * g + j)

theorem Payload.laneEnd_succ (p : Payload) (j : Nat) {n : Nat} (within : n < 304) :
    p.laneEnd j (n + 1) = p.getMsbD (9728 - 32 * (n + 1) + j) :: p.laneEnd j n := by
  unfold Payload.laneEnd
  rw [List.range_succ_eq_map, List.map_cons, List.map_map]
  refine congrArg₂ List.cons rfl (List.map_congr_left fun g _ => ?_)
  show p.getMsbD (9728 - 32 * (n + 1) + 32 * (g + 1) + j) = _
  congr 1
  omega

theorem foldGroups_succ (n : Nat) (p : Payload) :
    foldGroups (n + 1) p = p.extractLsb' (32 * n) 32 ^^^ foldGroups n p := rfl

/-- Each lane of the exclusive-or of groups is that of the lane's bits. -/
theorem foldGroups_getMsbD (p : Payload) (j : Fin 32) {n : Nat} (within : n ≤ 304) :
    (foldGroups n p).getMsbD j = xorAll (p.laneEnd j n) := by
  have lane := j.isLt
  induction n with
  | zero => simp [foldGroups, Payload.laneEnd]
  | succ n ih =>
    have group : (p.extractLsb' (32 * n) 32).getMsbD j = p.getMsbD (9728 - 32 * (n + 1) + j) := by
      have place : 9728 - 1 - (9728 - 32 * (n + 1) + j.val) = 32 * n + (32 - 1 - j.val) := by omega
      have inside : 9728 - 32 * (n + 1) + j.val < 9728 := by omega
      have low : 32 - 1 - j.val < 32 := by omega
      simp only [BitVec.getMsbD, BitVec.getLsbD_extractLsb', place, lane, inside, low, decide_true, Bool.true_and]
    rw [Payload.laneEnd_succ p j within, xorAll_cons, ← ih (by omega), ← group, foldGroups_succ, BitVec.getMsbD_xor]

/-- The exclusive-or of a payload's bits in one lane. -/
def Payload.lane (p : Payload) (j : Nat) : Bool :=
  xorAll ((List.range 304).map fun g => p.getMsbD (32 * g + j))

theorem Payload.lane_xor (p q : Payload) (j : Nat) : Payload.lane (p ^^^ q) j = xor (p.lane j) (q.lane j) := by
  unfold Payload.lane
  rw [← xorAll_map_xor]
  simp only [BitVec.getMsbD_xor]

/-- Each lane of a payload's groups (R12). -/
theorem foldGroups_lane (p : Payload) (j : Fin 32) : (foldGroups 304 p).getMsbD j = p.lane j := by
  rw [foldGroups_getMsbD p j (le_refl 304), Payload.laneEnd, Payload.lane]
  refine congrArg xorAll (List.map_congr_left fun g _ => ?_)
  rw [Nat.sub_self, Nat.zero_add]

/-- The lanes of all slots line up, so that they can be summed slot by slot first (R12). -/
theorem payloadSum_lane (slots : List Slot) (j : Nat) :
    Payload.lane (payloadSum slots) j = xorAll (slots.map fun t => t.payload.lane j) := by
  have summed (acc : Payload) : Payload.lane (slots.foldl (fun acc t => acc ^^^ t.payload) acc) j =
      xor (acc.lane j) (xorAll (slots.map fun t => t.payload.lane j)) := by
    induction slots generalizing acc with
    | nil => simp
    | cons t slots ih => rw [List.foldl_cons, ih, Payload.lane_xor, List.map_cons, xorAll_cons, Bool.xor_assoc]
  have empty : Payload.lane 0#9728 j = false := by
    have same := Payload.lane_xor 0#9728 0#9728 j
    rwa [BitVec.xor_self, Bool.xor_self] at same
  rw [payloadSum, summed, empty, Bool.false_xor]

/-- The 64 slots in transmission order (R3). -/
theorem LineSlots.slots_eq (f : LineSlots) :
    f.working.toList ++ f.protection.toList = (List.finRange 64).map fun i => (f.working ++ f.protection)[i] := by
  rw [← Vector.toList_append]
  refine List.ext_getElem (by simp) fun i inside inside' => ?_
  simp

/-- Lane j of the parity word is the exclusive-or of the bits numbered j mod 32 (R12). -/
theorem laneParity_getMsbD (f : LineSlots) (j : Fin 32) :
    (laneParity f).getMsbD j = xorAll ((List.finRange 64).map fun slot => (f.payloadOf slot).lane j) := by
  rw [laneParity, foldGroups_lane, payloadSum_lane, LineSlots.slots_eq, List.map_map]
  exact congrArg xorAll (List.map_congr_left fun i _ => by rw [Function.comp_apply, LineSlots.payloadOf])

namespace Machine

section
variable {s : State}

/-! ### The parity sent (R5; logs 6 and 12) -/

/-- What is taken of the last local frame start moves no parity held. -/
theorem takeOverdue_sentParity (s : State) : (takeOverdue s).sentParity = s.sentParity := by
  have quiet {f : State → State} (u : State) (h : RingWork u (f u)) : (event f u).sentParity = u.sentParity := by
    rw [event_frame, h.frame]
  have held {p : Prop} [Decidable p] {u v : State} (h : v.sentParity = u.sentParity) :
      (if p then v else u).sentParity = u.sentParity := by
    split
    · exact h
    · rfl
  refine takeOverdue_induction (P := fun u => u.sentParity = s.sentParity) s rfl ?_ ?_ ?_ ?_ ?_
  · exact fun x u h => (held (quiet u (holdOffExpires_ringWork x u))).trans h
  · exact fun x u h => (held (quiet u (settleExpires_ringWork x u))).trans h
  · exact fun x u h => (held (quiet u (wtrExpires_ringWork x u))).trans h
  · exact fun x u h => (held (quiet u (confirmExpires_ringWork x u))).trans h
  · intro u h
    rcases takeSwap_cases u with same | ⟨pc, -, -, -, taken⟩
    · rw [same]
      exact h
    · rw [taken, event_frame]
      exact h

/-- The frames of a state whose local frame start is issued, and the parities then held (R5; log 12). -/
theorem buildFrames_parity (s : State) :
    (buildFrames s).sent = some (framesBuilt s) ∧
      ∀ x, ((framesBuilt s).line x).parity = s.sentParity.get x ∧
        (buildFrames s).sentParity.get x = laneParity ((framesBuilt s).line x).slots := by
  have begun : (buildFrames s).sentParity = (framesBegun (framesBuilt s) s).sentParity := by
    rw [buildFrames_removalFrame s]
  obtain ⟨-, -, parity⟩ := framesBegun_instant (framesBuilt s) s
  refine ⟨buildFrames_sent s, fun x => ⟨?_, ?_⟩⟩
  · rw [framesBuilt, builtFrames_line]
    rfl
  · rw [begun, parity]
    cases x <;> rfl

/-- An event that builds the frames of `v` sends the parities that `v` holds, and holds those of the frames that it sends. -/
theorem event_parity {g : State → State} {u v : State} (work : g u = buildFrames v) :
    ∃ f, (event g u).sent = some f ∧
      ∀ x, (f.line x).parity = v.sentParity.get x ∧ (event g u).sentParity.get x = laneParity (f.line x).slots := by
  obtain ⟨sent, parities⟩ := buildFrames_parity v
  refine ⟨framesBuilt v, ?_, fun x => ?_⟩
  · rw [event_frame, work]
    exact sent
  · rw [event_frame, work]
    exact parities x

theorem issueFrameStart_sentParity (s : State) : (issueFrameStart s).sentParity = s.sentParity := by
  rw [issueFrameStart_frame]

/-- A local frame start sends the parities held, and holds those of the frames that it sends (R5; log 12). -/
theorem frameStart_parity (s : State) :
    ∃ f, (frameStart .frames s).sent = some f ∧
      ∀ x, (f.line x).parity = s.sentParity.get x ∧ (frameStart .frames s).sentParity.get x = laneParity (f.line x).slots := by
  unfold frameStart
  split
  · contradiction
  · contradiction
  · exact event_parity (g := buildFrames) rfl
  · rw [← takeOverdue_sentParity s, ← issueFrameStart_sentParity (takeOverdue s)]
    generalize takeOverdue s = u
    exact event_parity (g := fun s => buildFrames (issueFrameStart s)) rfl

end

end Machine

/-- Settles O17: the groups of a payload are summed lane by lane, and what one local frame start holds the next one sends. -/
theorem parityWordHoldsLaneParities : Obligations.ParityWordHoldsLaneParities := by
  refine ⟨fun f j => ?_, fun s t high ran => ?_⟩
  · rw [laneParity_getMsbD]
    exact (xorAll_flatMap _ _).symm
  · have started (u : Machine.State) (above : u.resetN = true) :
        Machine.exec (.localFrameStart .frames) u = .next (Machine.frameStart .frames u) := by
      show Host.Outcome.next (if u.resetN then _ else _) = _
      rw [if_pos above]
    cases (started s high).symm.trans ran
    have above := (Machine.frameStart_receptionKept .frames s).level.trans high
    obtain ⟨f, sent, parities⟩ := Machine.frameStart_parity s
    obtain ⟨g, sent', parities'⟩ := Machine.frameStart_parity (Machine.frameStart .frames s)
    exact ⟨_, f, g, started _ above, sent, sent', fun x => (parities' x).1.trans (parities x).2⟩

end Sys2Proof

/-! PROOFS. A local frame start counts the timers, and nothing of the last one is left when it is issued (O10). -/

namespace Sys2Proof.Machine

section
variable {s t u : State}

/-! ### The issue of a local frame start (R1, R2) -/

theorem State.issued_frameCount (s : State) :
    s.issued.frameCount = if s.instant.begun then s.frameCount else s.frameCount + 1#32 := by
  unfold State.issued
  split <;> rfl

theorem State.issued_instant (s : State) :
    s.issued.instant = ⟨true, if s.instant.begun then s.instant.swapTurn else true⟩ := by
  unfold State.issued
  split
  next begun => rw [← begun]
  next => rfl

/-- How the timers count with the issue: not at all where it has been taken (R2). -/
def State.counting (s : State) : Timer → Timer :=
  Option.map (if s.instant.begun then id else (· - 1))

theorem State.counting_begun (begun : s.instant.begun = true) (t : Timer) : s.counting t = t := by
  rw [State.counting, if_pos begun, Option.map_id]
  rfl

theorem State.counting_idle (idle : ¬ s.instant.begun = true) (t : Timer) : s.counting t = countDown t := by
  rw [State.counting, if_neg idle]
  rfl

theorem State.issued_monitor (s : State) (x : Side) :
    s.issued.monitor.get x =
      { s.monitor.get x with
        holdOffTimer := s.counting (s.monitor.get x).holdOffTimer, settle := s.counting (s.monitor.get x).settle } := by
  unfold State.issued
  split
  next begun => simp only [State.counting_begun begun]
  next idle =>
    simp only [State.counting_idle idle]
    cases x <;> rfl

theorem State.issued_condition (s : State) (x : Side) :
    s.issued.condition.get x = { s.condition.get x with wtr := s.counting (s.condition.get x).wtr } := by
  unfold State.issued
  split
  next begun => simp only [State.counting_begun begun]
  next idle =>
    simp only [State.counting_idle idle]
    cases x <;> rfl

theorem State.issued_engine (s : State) (x : Side) :
    s.issued.engine.get x = { s.engine.get x with confirm := s.counting (s.engine.get x).confirm } := by
  unfold State.issued
  split
  next begun => simp only [State.counting_begun begun]
  next idle =>
    simp only [State.counting_idle idle]
    cases x <;> rfl

/-! ### A local frame start that is at hand, as one event (R1, R19; log 6) -/

/-- The state that a local frame start, or the part of it that is asked for, leaves where nothing is overdue. -/
def frameStarted (s : State) : FrameStartPart → State
  | .issue => if s.instant.begun then s else event issueFrameStart s
  | .frames => event issuedFrames s

theorem exec_frameStarted (high : s.resetN = true) (due : FrameStartDue s) (part : FrameStartPart) :
    exec (.localFrameStart part) s = .next (frameStarted s part) := by
  cases part with
  | frames => exact exec_frames_event high due
  | issue =>
    show Host.Outcome.next (if s.resetN then frameStart .issue s else _) = _
    rw [if_pos high]
    cases begun : s.instant.begun with
    | true => simp only [frameStart, frameStarted, begun, if_true]
    | false =>
      have nothing := due.resolve_left (by rw [begun]; nofun)
      simp only [frameStart, frameStarted, begun, takeOverdue_nothingDue nothing, if_neg Bool.false_ne_true]

theorem issuedFrames_framesFrame (s : State) : FramesFrame s.issued (issuedFrames s) := buildFrames_framesFrame s.issued

theorem issuedFrames_own (s : State) : (issuedFrames s).signalling.own = s.signalling.own := by
  rw [issuedFrames_framesFrame s, s.issued_frame]

/-- The frames of a local frame start count nothing (R1, R2). -/
theorem frameStarted_counts (s : State) (part : FrameStartPart) :
    (frameStarted s part).frameCount = s.issued.frameCount ∧ (frameStarted s part).monitor = s.issued.monitor ∧
      (frameStarted s part).condition = s.issued.condition ∧ (frameStarted s part).engine = s.issued.engine := by
  cases part with
  | issue =>
    unfold frameStarted State.issued
    dsimp only
    split
    · exact ⟨rfl, rfl, rfl, rfl⟩
    · rw [event_frame]
      exact ⟨rfl, rfl, rfl, rfl⟩
  | frames =>
    rw [frameStarted, event_frame, issuedFrames_framesFrame s]
    exact ⟨rfl, rfl, rfl, rfl⟩

theorem frameStarted_issue_instant (s : State) : (frameStarted s .issue).instant = s.issued.instant := by
  unfold frameStarted State.issued
  dsimp only
  split
  · rfl
  · rw [event_frame]

theorem frameStarted_frames_instant (s : State) :
    (frameStarted s .frames).instant = ⟨false, s.issued.instant.swapTurn && s.tables.commit.isSome⟩ := by
  have begun : (issuedFrames s).instant = (framesBegun (framesBuilt s.issued) s.issued).instant := by
    rw [issuedFrames_removalFrame s]
  have tables : s.issued.tables = s.tables := by rw [s.issued_frame]
  rw [frameStarted, event_frame]
  exact begun.trans ((framesBegun_instant _ s.issued).2.1.trans (by rw [tables]))

theorem frameStarted_issue_frame (s : State) :
    let t := frameStarted s .issue
    t = { s with
      frameCount := t.frameCount, instant := t.instant, monitor := t.monitor, condition := t.condition, engine := t.engine,
      transmit := t.transmit, events := t.events, alertN := t.alertN } := by
  unfold frameStarted
  dsimp only
  split
  · rfl
  · rw [event_frame_of_own (f := issueFrameStart) rfl, issueFrameStart_frame]

theorem frameStarted_frame (s : State) (part : FrameStartPart) :
    let t := frameStarted s part
    t = { s with
      frameCount := t.frameCount, instant := t.instant, monitor := t.monitor, condition := t.condition, engine := t.engine,
      buffer := t.buffer, holder := t.holder, squelch := t.squelch, sent := t.sent, sentParity := t.sentParity,
      transmit := t.transmit, counters := t.counters, events := t.events, alertN := t.alertN } := by
  dsimp only
  cases part with
  | issue => rw [frameStarted_issue_frame s]
  | frames =>
    have framed : frameStarted s .frames = { issuedFrames s with
        transmit := (frameStarted s .frames).transmit, events := (frameStarted s .frames).events
        alertN := (frameStarted s .frames).alertN } := event_frame_of_own (issuedFrames_own s)
    rw [framed, issuedFrames_framesFrame s, s.issued_frame]

end

end Sys2Proof.Machine

/-! PROOFS. What fell due at a local frame start is taken before the next one is issued, each by its own row (O10). -/

namespace Sys2Proof.Machine

/-! ### The eight timers (R2) -/

/-- A timer that falls due at a local frame start. -/
inductive Clock
  | holdOff (x : Side)
  | settle (x : Side)
  | wtr (x : Side)
  | confirm (x : Side)

def State.clock (s : State) : Clock → Timer
  | .holdOff x => (s.monitor.get x).holdOffTimer
  | .settle x => (s.monitor.get x).settle
  | .wtr x => (s.condition.get x).wtr
  | .confirm x => (s.engine.get x).confirm

/-- The timer `now` has run out only where `before` had. -/
def StaysAhead (before now : Timer) : Prop :=
  now = some 0 → before = some 0

theorem staysAhead_none (before : Timer) : StaysAhead before none := nofun

/-- A timer freshly started for a time that is not 0 has not run out. -/
theorem staysAhead_startUnits (before : Timer) {units : Nat} (positive : units ≠ 0) :
    StaysAhead before (startUnits units) := fun due =>
  absurd (Option.some.inj due) (Nat.mul_ne_zero (by decide) positive)

theorem staysAhead_startSeconds (before : Timer) {seconds : Nat} (positive : seconds ≠ 0) :
    StaysAhead before (startSeconds seconds) := fun due =>
  absurd (Option.some.inj due) (Nat.mul_ne_zero (by decide) positive)

/-- From s to t no timer falls due; the Profile, the tables and the local frame start at hand stand. -/
structure NoneFallsDue (s t : State) : Prop where
  elsewhere : t = { t with profile := s.profile, tables := s.tables, instant := s.instant }
  clocks : ProfileSound s → ∀ c, StaysAhead (s.clock c) (t.clock c)

section
variable {s t u : State} {x : Side}

theorem NoneFallsDue.profile (h : NoneFallsDue s t) : t.profile = s.profile := by rw [h.elsewhere]

theorem NoneFallsDue.profileSound (h : NoneFallsDue s t) (sound : ProfileSound s) : ProfileSound t := sound.congr h.profile

theorem NoneFallsDue.refl (s : State) : NoneFallsDue s s := ⟨rfl, fun _ _ => id⟩

theorem NoneFallsDue.trans (h : NoneFallsDue s t) (k : NoneFallsDue t u) : NoneFallsDue s u where
  elsewhere := by
    have profile := k.profile.trans h.profile
    have tables : u.tables = s.tables := by rw [k.elsewhere, h.elsewhere]
    have instant : u.instant = s.instant := by rw [k.elsewhere, h.elsewhere]
    rw [← profile, ← tables, ← instant]
  clocks := fun sound c => h.clocks sound c ∘ k.clocks (h.profileSound sound) c

/-- Work that moves no timer. -/
theorem NoneFallsDue.of_untimed (elsewhere : t = { t with
      profile := s.profile, tables := s.tables, instant := s.instant, monitor := s.monitor, condition := s.condition
      engine := s.engine }) : NoneFallsDue s t where
  elsewhere := by rw [elsewhere]
  clocks := fun _ c => by
    have same : t.clock c = s.clock c := by
      rw [elsewhere]
      cases c <;> rfl
    rw [same]
    exact id

theorem event_noneFallsDue (f : State → State) (s : State) : NoneFallsDue (f s) (event f s) :=
  .of_untimed (by rw [event_frame])

/-! ### One side's timers (R26, R41, R90, R121) -/

/-- One side's monitor, condition or engine takes a value, and its timers stay ahead. -/
theorem setMonitor_noneFallsDue (s : State) (x : Side) {m : Monitor}
    (holdOff : ProfileSound s → StaysAhead (s.monitor.get x).holdOffTimer m.holdOffTimer)
    (settle : StaysAhead (s.monitor.get x).settle m.settle) : NoneFallsDue s (s.setMonitor (s.monitor.set x m)) where
  elsewhere := rfl
  clocks := fun sound c => by
    have ahead : ∀ y, StaysAhead (s.monitor.get y).holdOffTimer ((s.monitor.set x m).get y).holdOffTimer ∧
        StaysAhead (s.monitor.get y).settle ((s.monitor.set x m).get y).settle := fun y => by
      rw [Sides.get_set]
      split
      next same => exact same ▸ ⟨holdOff sound, settle⟩
      next => exact ⟨id, id⟩
    cases c with
    | holdOff y => exact (ahead y).1
    | settle y => exact (ahead y).2
    | wtr y => exact id
    | confirm y => exact id

theorem updateCondition_noneFallsDue (s : State) (x : Side) {f : ConditionSide → ConditionSide}
    (wtr : ProfileSound s → StaysAhead (s.condition.get x).wtr (f (s.condition.get x)).wtr) :
    NoneFallsDue s (s.updateCondition x f) where
  elsewhere := rfl
  clocks := fun sound c => by
    have ahead : ∀ y, StaysAhead (s.condition.get y).wtr ((s.condition.set x (f (s.condition.get x))).get y).wtr := fun y => by
      rw [Sides.get_set]
      split
      next same => exact same ▸ wtr sound
      next => exact id
    cases c with
    | holdOff y => exact id
    | settle y => exact id
    | wtr y => exact ahead y
    | confirm y => exact id

theorem updateEngine_noneFallsDue (s : State) (x : Side) {f : Engine → Engine}
    (confirm : ProfileSound s → StaysAhead (s.engine.get x).confirm (f (s.engine.get x)).confirm) :
    NoneFallsDue s (s.updateEngine x f) where
  elsewhere := rfl
  clocks := fun sound c => by
    have ahead : ∀ y, StaysAhead (s.engine.get y).confirm ((s.engine.set x (f (s.engine.get x))).get y).confirm := fun y => by
      rw [Sides.get_set]
      split
      next same => exact same ▸ confirm sound
      next => exact id
    cases c with
    | holdOff y => exact id
    | settle y => exact id
    | wtr y => exact id
    | confirm y => exact ahead y

/-! ### Notices and reports (R63, R86 to R90, R110) -/

/-- Work on the conditions alone that keeps the detection. -/
theorem DetectionKept.noneFallsDue (kept : DetectionKept s t) (frame : RestorationFrame s t) (engine : t.engine = s.engine) :
    NoneFallsDue s t where
  elsewhere := by rw [frame]
  clocks := fun _ c => by
    have same : t.clock c = s.clock c := by
      cases c with
      | holdOff y => rw [frame]; rfl
      | settle y => rw [frame]; rfl
      | wtr y => exact kept.wtr y
      | confirm y => exact congrArg (fun e : Sides Engine => (e.get y).confirm) engine
    rw [same]
    exact id

theorem Engine.retarget_ahead (e : Engine) {timer : Timer} (start : ∀ before, StaysAhead before timer) (old new : Bool) :
    StaysAhead e.confirm (e.retarget timer old new).confirm := by
  unfold Engine.retarget
  split
  · exact id
  · split
    · exact start _
    · exact start _
    · exact staysAhead_none _
    · exact start _
    · exact id

theorem Engine.partnerTest_ahead (e : Engine) (partner : Action) : StaysAhead e.confirm (e.partnerTest partner).confirm := by
  unfold Engine.partnerTest
  split
  · exact id
  · split
    · exact staysAhead_none _
    · exact id
  · split <;> exact id
  · split
    · exact staysAhead_none _
    · exact id

theorem ProfileSound.confirm_ahead (sound : ProfileSound s) (before : Timer) :
    StaysAhead before (startUnits s.profile.confirmTimeout) :=
  staysAhead_startUnits before (Nat.ne_of_gt (lt_of_lt_of_le (by decide) sound.confirmTimeout.1))

theorem ProfileSound.wtr_ahead (sound : ProfileSound s) (before : Timer) :
    StaysAhead before (startSeconds s.profile.wtrTime) :=
  staysAhead_startSeconds before (Nat.ne_of_gt sound.wtrTime.1)

theorem engineNotice_noneFallsDue (x : Side) (old : Bool) (s : State) : NoneFallsDue s (engineNotice x old s) :=
  NoneFallsDue.trans
    (updateEngine_noneFallsDue s x fun sound due =>
      Engine.retarget_ahead _ sound.confirm_ahead old (s.resolver.target.get x) (Engine.partnerTest_ahead _ _ due))
    (.of_untimed rfl)

theorem noticePass_noneFallsDue (s : State) : NoneFallsDue s (noticePass s) :=
  have dropped : NoneFallsDue s (dropManual s) :=
    (dropManual_detectionKept s).noneFallsDue (dropManual_frame s) (by unfold dropManual; split <;> rfl)
  ((dropped.trans (.of_untimed rfl)).trans (engineNotice_noneFallsDue .east _ _)).trans (engineNotice_noneFallsDue .west _ _)

theorem tableNotice_noneFallsDue (s : State) : NoneFallsDue s (tableNotice s) := by
  unfold tableNotice
  dsimp only
  split
  · exact noticePass_noneFallsDue s
  · exact (noticePass_noneFallsDue s).trans (noticePass_noneFallsDue _)

theorem announce_noneFallsDue (s : State) : NoneFallsDue s (announce s) := by
  have formed : NoneFallsDue s (formAnnounced s) :=
    (formAnnounced_detectionKept s).noneFallsDue (formAnnounced_frame s) rfl
  unfold announce
  dsimp only
  split
  · exact formed.trans (tableNotice_noneFallsDue _)
  · exact formed

/-- A report starts the WTR timer, stops it or leaves it (R87 to R90). -/
theorem ConditionSide.report_ahead (c : ConditionSide) {timer : Timer} (start : ∀ before, StaysAhead before timer)
    (quality : Quality) (r : Report) : StaysAhead c.wtr (c.report quality timer r).wtr := by
  unfold ConditionSide.report
  split
  · split
    · exact id
    · exact staysAhead_none _
  · split
    · split
      · exact staysAhead_none _
      · exact start _
      · exact id
    · exact id
  · split
    · exact staysAhead_none _
    · exact id
  · split
    · exact start _
    · exact id
  · exact id

theorem takeReport_noneFallsDue (x : Side) (s : State) (r : Report) : NoneFallsDue s (takeReport x s r) :=
  (updateCondition_noneFallsDue s x fun sound => ConditionSide.report_ahead _ sound.wtr_ahead _ r).trans
    (announce_noneFallsDue _)

theorem takeReports_noneFallsDue (x : Side) (rs : List Report) (s : State) :
    NoneFallsDue s (rs.foldl (takeReport x) s) := by
  induction rs generalizing s with
  | nil => exact .refl s
  | cons r rs ih => exact (takeReport_noneFallsDue x s r).trans (ih _)

/-- A hold-off is timed only where its time is not 0 (R26). -/
theorem Monitor.formFlag_ahead (m : Monitor) (joined : Bool) (time : Nat) :
    StaysAhead m.holdOffTimer (m.formFlag joined time).1.holdOffTimer ∧ (m.formFlag joined time).1.settle = m.settle := by
  unfold Monitor.formFlag Monitor.startHoldOff
  dsimp only
  split
  · split
    · split
      · exact ⟨staysAhead_none _, rfl⟩
      next positive => exact ⟨staysAhead_startUnits _ positive, rfl⟩
    · exact ⟨id, rfl⟩
  · exact ⟨staysAhead_none _, rfl⟩
  · exact ⟨id, rfl⟩

theorem closeMonitor_noneFallsDue (x : Side) (changes : List Report) (s : State) :
    NoneFallsDue s (closeMonitor x changes s) :=
  have formed := (s.monitor.get x).formFlag_ahead s.joined s.profile.holdOffTime
  (setMonitor_noneFallsDue s x (fun _ => formed.1) (by rw [formed.2]; exact id)).trans (takeReports_noneFallsDue x _ _)

end

end Sys2Proof.Machine

/-! PROOFS. A local frame start counts the timers, with nothing of the last one left when it is issued (O10). -/

namespace Sys2Proof.Machine

/-! ### Each expiry by its own row (R26, R41, R90, R114, R119) -/

/-- The expiry of a timer, taken where it is due. -/
def takeExpiry : Clock → State → State
  | .holdOff x => takeHoldOffExpiry x
  | .settle x => takeSettleMaskExpiry x
  | .wtr x => takeWtrExpiry x
  | .confirm x => takeConfirmTimerExpiry x

/-- The work of the expiry of a timer. -/
def expires : Clock → State → State
  | .holdOff x => holdOffExpires x
  | .settle x => settleExpires x
  | .wtr x => wtrExpires x
  | .confirm x => confirmExpires x

/-- The eight timers in the order in which what is overdue is taken (log 6). -/
def overdueClocks : List Clock :=
  [.holdOff .east, .holdOff .west, .settle .east, .settle .west, .wtr .east, .wtr .west, .confirm .east, .confirm .west]

theorem mem_overdueClocks (c : Clock) : c ∈ overdueClocks := by
  rcases c with x | x | x | x <;> cases x <;> simp [overdueClocks]

theorem takeOverdue_eq (s : State) : takeOverdue s = takeSwap (overdueClocks.foldl (fun t c => takeExpiry c t) s) := by
  simp only [takeOverdue, overdueClocks, List.foldl, takeExpiry]

/-- What the expiries rest on: a timer that has run out belongs to a side that waits for it. -/
structure Waiting (s : State) : Prop where
  high : s.resetN = true
  profile : ProfileSound s
  sides : ∀ x, SideSound s x
  restoration : RestorationSound s

section
variable {s : State} {c : Clock}

theorem takeExpiry_cases (c : Clock) (s : State) : takeExpiry c s = s ∨ takeExpiry c s = event (expires c) s := by
  cases c with
  | holdOff x => exact (takeHoldOffExpiry_cases x s).imp_right fun h => h.2.2.2
  | settle x => exact (takeSettleMaskExpiry_cases x s).imp_right fun h => h.2.2
  | wtr x => exact (takeWtrExpiry_cases x s).imp_right fun h => h.2.2.2
  | confirm x => exact (takeConfirmTimerExpiry_cases x s).imp_right fun h => h.2.2.2

theorem takeExpiry_due (waiting : Waiting s) (due : s.clock c = some 0) : takeExpiry c s = event (expires c) s := by
  cases c with
  | holdOff x =>
    have holding := (waiting.sides x).monitor.holding.1 (by rw [show (s.monitor.get x).holdOffTimer = some 0 from due]; rfl)
    exact Host.Outcome.next.inj (exec_holdOffExpiry_due waiting.high holding due)
  | settle x => exact Host.Outcome.next.inj (exec_settleMaskExpiry_due waiting.high due)
  | wtr x => exact Host.Outcome.next.inj (exec_wtrExpiry_due waiting.high waiting.restoration due)
  | confirm x => exact Host.Outcome.next.inj (exec_confirmTimerExpiry_due waiting.high waiting.restoration due)

/-- An expiry leaves its timer at once, and then no timer falls due. -/
theorem expires_stops (c : Clock) (s : State) : ∃ u, NoneFallsDue s u ∧ NoneFallsDue u (expires c s) ∧
    (Waiting s → s.clock c = some 0 → u.clock c = none) := by
  cases c with
  | holdOff x =>
    refine ⟨s.updateMonitor x fun m => { m with holdOff := .standing, holdOffTimer := none },
      setMonitor_noneFallsDue s x (fun _ => staysAhead_none _) id, takeReport_noneFallsDue x _ _, fun _ _ => ?_⟩
    cases x <;> rfl
  | settle x =>
    refine ⟨s.setMonitor (s.monitor.set x { (s.monitor.get x).evaluate s.profile x with settle := none }),
      setMonitor_noneFallsDue s x (fun _ => id) (staysAhead_none _), closeMonitor_noneFallsDue x _ _, fun _ _ => ?_⟩
    cases x <;> rfl
  | wtr x =>
    refine ⟨s.updateCondition x fun c => c.become .idle, updateCondition_noneFallsDue s x fun _ => staysAhead_none _,
      announce_noneFallsDue _, fun _ _ => ?_⟩
    cases x <;> rfl
  | confirm x =>
    have ahead (e : Engine) : StaysAhead e.confirm e.expire.confirm := by
      unfold Engine.expire
      split
      · exact staysAhead_none _
      · exact staysAhead_none _
      · exact id
    refine ⟨writeAction (s.updateEngine x Engine.expire) x,
      (updateEngine_noneFallsDue s x fun _ => ahead _).trans (.of_untimed rfl), ?_, fun waiting due => ?_⟩
    · show NoneFallsDue _ (confirmExpires x s)
      unfold confirmExpires
      dsimp only
      split
      · exact tableNotice_noneFallsDue _
      · exact .refl _
    · have runs : (s.clock (.confirm x)).isSome := by rw [due]; rfl
      have stopped : (s.engine.get x).expire.confirm = none := by
        unfold Engine.expire
        rcases (waiting.restoration.engine x).confirm.1 runs with bridged | unlooping
        · rw [bridged]
        · rw [unlooping]
      rw [← stopped]
      cases x <;> rfl

theorem takeExpiry_noneFallsDue (c : Clock) (s : State) : NoneFallsDue s (takeExpiry c s) := by
  obtain ⟨u, before, after, -⟩ := expires_stops c s
  rcases takeExpiry_cases c s with same | taken
  · rw [same]
    exact .refl s
  · rw [taken]
    exact (before.trans after).trans (event_noneFallsDue _ s)

/-- Once its expiry is taken, a timer is not due. -/
theorem takeExpiry_clock (waiting : Waiting s) (c : Clock) : (takeExpiry c s).clock c ≠ some 0 := by
  intro due
  have overdue : s.clock c = some 0 := (takeExpiry_noneFallsDue c s).clocks waiting.profile c due
  obtain ⟨u, before, after, stopped⟩ := expires_stops c s
  rw [takeExpiry_due waiting overdue] at due
  have started : u.clock c = some 0 :=
    (after.trans (event_noneFallsDue _ s)).clocks (before.profileSound waiting.profile) c due
  rw [stopped waiting overdue] at started
  contradiction

theorem takeExpiry_waiting (waiting : Waiting s) (c : Clock) : Waiting (takeExpiry c s) := by
  have kept : ReceptionKept s (takeExpiry c s) ∧ RestorationTaken s (takeExpiry c s) := by
    cases c with
    | holdOff x => exact ⟨takeHoldOffExpiry_receptionKept x s, takeHoldOffExpiry_taken s x⟩
    | settle x => exact ⟨takeSettleMaskExpiry_receptionKept x s, takeSettleMaskExpiry_taken s x⟩
    | wtr x => exact ⟨takeWtrExpiry_receptionKept x s, takeWtrExpiry_taken s x⟩
    | confirm x => exact ⟨takeConfirmTimerExpiry_receptionKept x s, takeConfirmTimerExpiry_taken s x⟩
  obtain ⟨reception, restoration⟩ := kept
  exact ⟨reception.level.trans waiting.high, (takeExpiry_noneFallsDue c s).profileSound waiting.profile,
    reception.sides waiting.sides, restoration.sound waiting.restoration⟩

/-! ### What is overdue, all of it (R2, R137; log 6) -/

/-- Expiries taken one after the other: each timer among them, or not due before, is not due after. -/
theorem takeExpiries_clock (cs : List Clock) (waiting : Waiting s) (spared : c ∈ cs ∨ s.clock c ≠ some 0) :
    (cs.foldl (fun t c => takeExpiry c t) s).clock c ≠ some 0 := by
  induction cs generalizing s with
  | nil => exact spared.resolve_left nofun
  | cons d cs ih =>
    refine ih (takeExpiry_waiting waiting d) ?_
    have ahead := (takeExpiry_noneFallsDue d s).clocks waiting.profile c
    rcases spared with member | before
    · rcases List.mem_cons.1 member with same | later
      · exact .inr (same ▸ takeExpiry_clock waiting d)
      · exact .inl later
    · exact .inr fun due => before (ahead due)

theorem takeExpiries_noneFallsDue (cs : List Clock) (s : State) :
    NoneFallsDue s (cs.foldl (fun t c => takeExpiry c t) s) := by
  induction cs generalizing s with
  | nil => exact .refl s
  | cons c cs ih => exact (takeExpiry_noneFallsDue c s).trans (ih _)

/-- The swap moves no timer, and whether a local frame start is issued stands. -/
theorem takeSwap_clock (s : State) (c : Clock) :
    (takeSwap s).clock c = s.clock c ∧ (takeSwap s).instant.begun = s.instant.begun := by
  rcases takeSwap_cases s with same | ⟨pc, -, -, -, taken⟩
  · rw [same]
    exact ⟨rfl, rfl⟩
  · rw [taken, event_frame]
    cases c <;> exact ⟨rfl, rfl⟩

theorem takeSwap_swap (high : s.resetN = true) : (takeSwap s).tables.commit = none ∨ (takeSwap s).instant.swapTurn = false := by
  unfold takeSwap
  split
  next pc pending =>
    split
    · rw [event_frame]
      exact .inl rfl
    next unturned => exact .inr (by simpa [high] using unturned)
  next idle => exact .inl idle

theorem nothingDue_of_clocks (clocks : ∀ c, s.clock c ≠ some 0)
    (swap : s.tables.commit = none ∨ s.instant.swapTurn = false) : NothingDue s :=
  ⟨fun x => clocks (.holdOff x), fun x => clocks (.settle x), fun x => clocks (.wtr x), fun x => clocks (.confirm x), swap⟩

theorem takeOverdue_clears (waiting : Waiting s) : NothingDue (takeOverdue s) := by
  rw [takeOverdue_eq]
  refine nothingDue_of_clocks (fun c => ?_) (takeSwap_swap ?_)
  · rw [(takeSwap_clock _ c).1]
    exact takeExpiries_clock overdueClocks waiting (.inl (mem_overdueClocks c))
  · have level := (takeOverdue_receptionKept s).level
    rw [takeOverdue_eq, (takeSwap_receptionKept _).level] at level
    exact level.trans waiting.high

theorem takeOverdue_begun (s : State) : (takeOverdue s).instant.begun = s.instant.begun := by
  rw [takeOverdue_eq, (takeSwap_clock _ (.holdOff .east)).2, (takeExpiries_noneFallsDue overdueClocks s).elsewhere]

/-- A local frame start takes what is overdue first. -/
theorem frameStart_takeOverdue (part : FrameStartPart) (idle : s.instant.begun = false) (nothing : NothingDue (takeOverdue s)) :
    frameStart part s = frameStart part (takeOverdue s) := by
  have idle' := (takeOverdue_begun s).trans idle
  have taken := takeOverdue_nothingDue nothing
  cases part with
  | issue => simp only [frameStart, idle, idle', taken]
  | frames => simp only [frameStart, idle, idle', taken]

end

/-- Settles O10: one event at a local frame start at hand, and eight expiries and the swap before it where it is not. -/
theorem frameStartCountsTimers : Obligations.FrameStartCountsTimers := by
  refine ⟨fun s part high due => ?_, fun s part sound high idle => ?_⟩
  · obtain ⟨frameCount, monitor, condition, engine⟩ := frameStarted_counts s part
    refine ⟨frameStarted s part, exec_frameStarted high due part, frameCount.trans s.issued_frameCount, ?_,
      fun x => ?_, fun x => ?_, fun x => ?_, fun issue => ?_, frameStarted_frame s part⟩
    · cases part with
      | issue => exact (frameStarted_issue_instant s).trans s.issued_instant
      | frames => exact (frameStarted_frames_instant s).trans (by rw [s.issued_instant])
    · rw [monitor]
      exact s.issued_monitor x
    · rw [condition]
      exact s.issued_condition x
    · rw [engine]
      exact s.issued_engine x
    · rw [issue]
      exact frameStarted_issue_frame s
  · have sides (x : Side) : SideSound s x := ⟨sound.reception.line x, sound.reception.monitor x⟩
    have nothing := takeOverdue_clears ⟨high, sound.profile, sides, sound.restoration⟩
    refine ⟨takeOverdue s, runRows_dueRows s, nothing, (takeOverdue_begun s).trans idle, ?_⟩
    have level := (takeOverdue_receptionKept s).level.trans high
    show Host.Outcome.next (if s.resetN then _ else _) = .next (if (takeOverdue s).resetN then _ else _)
    rw [if_pos high, if_pos level]
    exact congrArg _ (frameStart_takeOverdue part idle nothing)

end Sys2Proof.Machine
